-- ==== Sys2Proof/Word.lean ====
section
/-!
DEFINITION. The words the block works on and the pair of drive slots.
All registers hold unsigned values, bit 0 is the least significant bit (00_scope.md R11).
-/

namespace Sys2Proof

/-- A register or buffer byte. -/
abbrev Byte := BitVec 8

/-- A 16-bit item of the data register, a byte count, a transaction word. -/
abbrev Half := BitVec 16

/-- A 32-bit guest physical address or transaction datum. -/
abbrev Word := BitVec 32

/-- The two drive slots of a channel: 0 master, 1 slave (10_state.md R21, R22). -/
inductive DriveId where
  | master
  | slave
  deriving DecidableEq, Repr

/-- One thing for each drive slot. -/
structure Pair (α : Type) where
  master : α
  slave : α
  deriving DecidableEq, Repr

/-- The component of slot `d`. -/
def Pair.get {α : Type} (p : Pair α) : DriveId → α
  | .master => p.master
  | .slave => p.slave

/-- The pair with slot `d`'s component replaced. -/
def Pair.set {α : Type} (p : Pair α) (d : DriveId) (x : α) : Pair α :=
  match d with
  | .master => { p with master := x }
  | .slave => { p with slave := x }

end Sys2Proof
end

