-- ==== Sys2Proof/Config.lean ====
section
/-!
DEFINITION. The implementation parameters of 00_scope.md R8 and R9, the configuration the reset state carries
(Configuration K of 95_test_vectors.md section 1, DESIGN CHOICE, log 1), and the free values of
93_implementation_defined.md: opaque constants, so that nothing can be proved of them.
-/

namespace Sys2Proof

/-- The command protocol of a drive, `P_PROTOCOL[d]` (R8). -/
inductive Protocol where
  | ata
  | atapi
  deriving DecidableEq, Repr

/-- Which channel of the controller this instance is, `P_CHANNEL` (R9). -/
inductive Channel where
  | primary
  | secondary
  deriving DecidableEq, Repr

/-- `b = 8 * P_CHANNEL`: the first bus-master offset of the channel (20_memory.md R61). -/
def Channel.base : Channel → Nat
  | .primary => 0
  | .secondary => 8

/-- `P_TOC[d]`, a partial function from (msf, format, track) to byte strings (R9; 42_atapi_packet.md R209):
the default of R209, computed from the medium's capacity, or a finite table. -/
inductive TocParam where
  | singleTrack
  | table (rows : List ((Bool × BitVec 4 × Byte) × List Byte))
  deriving DecidableEq, Repr

/-- The per-drive parameters (R8, R9). `lbaCapacity` is the LBA capacity where one is configured; `identify` lists
the words of the identify block that are not 0 (R176: "the default is 0"); the partial payload functions are finite
tables. -/
structure DriveConfig where
  installed : Bool
  protocol : Protocol
  cylinders : Nat
  heads : Nat
  spt : Nat
  lbaCapacity : Option Nat
  lbaCapable : Bool
  identify : List (Nat × Half)
  inquiry : List Byte
  modeSense6 : List ((BitVec 2 × BitVec 6) × List Byte)
  modeSense10 : List ((BitVec 2 × BitVec 6) × List Byte)
  toc : TocParam
  dvdStruct : List ((Byte × Byte × Word) × List Byte)
  deriving DecidableEq, Repr

/-- `P_BPS[d]`: "512 for ATA", 2048 for ATAPI (R8). -/
def DriveConfig.bytesPerSector (c : DriveConfig) : Nat :=
  match c.protocol with
  | .ata => 512
  | .atapi => 2048

/-- `P_CAPACITY[d]`: the configured LBA capacity; with none configured, `P_CYLINDERS*P_HEADS*P_SPT` (R8). The blocks
of an ATAPI drive are counted by its device at run time (20_memory.md R65), and no rule reads this for one. -/
def DriveConfig.capacity (c : DriveConfig) : Nat :=
  match c.lbaCapacity with
  | some n => n
  | none => c.cylinders * c.heads * c.spt

/-- The word `w[i]` of `P_IDENTIFY[d]` (41_ata_commands.md R176). -/
def DriveConfig.identifyWord (c : DriveConfig) (i : Nat) : Half :=
  (c.identify.lookup i).getD 0

/-- The block-level parameters and those of the two drives (R9). -/
structure ChannelConfig where
  channel : Channel
  defer : Bool
  maxBlock : Nat
  iblkMask : Byte
  cfgBmBase : Nat
  features : List Byte
  fatalStubs : Bool
  drives : Pair DriveConfig
  deriving DecidableEq, Repr

/-- The ranges R8 gives a drive's geometry, the constraints of R176 on its identify block, and the payload
lengths of R219 (`1 <= L <= P_MAX_BLOCK - 1`). R176 does not say what the identify words hold for a number that does
not fit them: here word 1 is bits 15:0 of `P_CYLINDERS`, and words 60 and 61 are bits 15:0 and 31:16 of `P_CAPACITY`
(DESIGN CHOICE, log 25). -/
def DriveConfig.wf (maxBlock : Nat) (c : DriveConfig) : Bool :=
  let payloadOk := fun (bs : List Byte) => decide (1 ≤ bs.length ∧ bs.length + 1 ≤ maxBlock)
  decide (1 ≤ c.heads ∧ c.heads ≤ 16) && decide (1 ≤ c.spt ∧ c.spt ≤ 255)
    && payloadOk c.inquiry
    && c.modeSense6.all (fun r => payloadOk r.2)
    && c.modeSense10.all (fun r => payloadOk r.2)
    && c.dvdStruct.all (fun r => payloadOk r.2)
    && (match c.toc with
        | .singleTrack => true
        | .table rows => rows.all (fun r => payloadOk r.2))
    && (match c.protocol with
        | .ata =>
          c.identifyWord 0 == 0x0040#16
            && c.identifyWord 1 == BitVec.ofNat 16 c.cylinders
            && c.identifyWord 3 == BitVec.ofNat 16 c.heads
            && c.identifyWord 6 == BitVec.ofNat 16 c.spt
            && (c.identifyWord 49).getLsbD 9 == c.lbaCapable
            && (c.identifyWord 49).getLsbD 8
            && c.identifyWord 60 == (if c.lbaCapable then BitVec.ofNat 16 c.capacity else 0)
            && c.identifyWord 61 == (if c.lbaCapable then BitVec.ofNat 16 (c.capacity / 65536) else 0)
        | .atapi =>
          c.identifyWord 0 == 0x85C0#16 && (c.identifyWord 49).getLsbD 9 && (c.identifyWord 49).getLsbD 8)

/-- A configuration the rules admit: a buffer that holds the largest unit any rule loads (10_state.md R35),
`P_IBLK_MASK` a subset of `0x98` (43_busmaster_dma.md R244), and two well-formed drives. -/
def ChannelConfig.wf (c : ChannelConfig) : Bool :=
  decide (2352 ≤ c.maxBlock) && (c.iblkMask &&& 0x67#8) == 0
    && c.drives.master.wf c.maxBlock && c.drives.slave.wf c.maxBlock

/-- The 36-byte inquiry payload of Configuration K: R206's layout with "SPEC", "CDROM", "1.0". -/
def standardInquiry : List Byte :=
  [0x05, 0x80, 0x00, 0x21, 0x1F, 0x00, 0x00, 0x00] ++
  [0x53, 0x50, 0x45, 0x43, 0x20, 0x20, 0x20, 0x20] ++
  [0x43, 0x44, 0x52, 0x4F, 0x4D, 0x20, 0x20, 0x20, 0x20, 0x20, 0x20, 0x20, 0x20, 0x20, 0x20, 0x20] ++
  [0x31, 0x2E, 0x30, 0x20]

/-- Drive 0 of Configuration K: a 4 x 16 x 63 ATA disk. Configuration K gives it no inquiry payload and no table of
contents, which only an ATAPI drive's commands read: those here are the model's (DESIGN CHOICE, log 1). -/
def standardDisk : DriveConfig where
  installed := true
  protocol := .ata
  cylinders := 4
  heads := 16
  spt := 63
  lbaCapacity := some 4032
  lbaCapable := true
  identify := [(0, 0x0040), (1, 0x0004), (3, 0x0010), (6, 0x003F), (49, 0x0300), (60, 0x0FC0)]
  inquiry := standardInquiry
  modeSense6 := []
  modeSense10 := []
  toc := .singleTrack
  dvdStruct := []

/-- Drive 1 of Configuration K: an ATAPI CD-ROM drive. Configuration K gives it no geometry, no LBA capability and no
LBA capacity: the 0 cylinders, 1 head, 1 sector a track, the `true` and the `none` here are the model's
(DESIGN CHOICE, log 1). -/
def standardCdRom : DriveConfig where
  installed := true
  protocol := .atapi
  cylinders := 0
  heads := 1
  spt := 1
  lbaCapacity := none
  lbaCapable := true
  identify := [(0, 0x85C0), (49, 0x0300)]
  inquiry := standardInquiry
  modeSense6 := []
  modeSense10 := []
  toc := .singleTrack
  dvdStruct := []

/-- Configuration K of 95_test_vectors.md, with `P_CFG_BM_BASE = 0x50` as in vector V72, and the model's values for the
parameters it does not give. DESIGN CHOICE, log 1: the spec leaves every parameter to the instance. -/
def Config.standard : ChannelConfig where
  channel := .primary
  defer := false
  maxBlock := 2352
  iblkMask := 0x10
  cfgBmBase := 0x50
  features := [0x03]
  fatalStubs := false
  drives := { master := standardDisk, slave := standardCdRom }

/-- What an unlisted address of guest memory reads as. DESIGN CHOICE, log 4 (Configuration K's `0xEE`). -/
def Config.memoryDefault : Byte := 0xEE

/-- The data of a read the spec leaves unspecified (U1, U2), one value for each count. Log 6. -/
opaque Config.freeRead : Nat → Word

/-- `BE32(C)` of the default table of contents for a medium of `C >= 2^32` blocks, which R209 does not state. Log 23. -/
opaque Config.tocCapacity : Nat → Word

/-- The bytes of a sector buffer after a software reset (U5), one list for each count. Log 2. -/
opaque Config.freeBuffer : Nat → List Byte

/-- `slot.data` of a continue-sector descriptor (U6), one value for each count. Log 3. -/
opaque Config.freeSlotData : Nat → Word

/-- Byte `i` of block `lba` of a device, asked for with block size `n`, where the state lists no such block
(U10: a device's contents are an oracle). Log 7. -/
opaque Config.mediumByte : (d : DriveId) → (n lba i : Nat) → Byte

/-- Where the platform's memory primitives take the byte of a span that lies at `2^32` or beyond: an address,
or nowhere (R86, U9). Log 5. -/
opaque Config.platformAddress : Nat → Option Word

/-- The byte a DMA read finds at an address beyond the top that has no memory, for each count (U9). Log 5. -/
opaque Config.beyondTopByte : (count address : Nat) → Byte

end Sys2Proof
end

