-- ==== Sys2Proof/Syntax.lean ====
section
/-!
DEFINITION. The syntax: one constructor for each row of spec/opcode_table.json, in the table's order.
Format IO rows are host transactions, format ATA rows command bytes, format PKT rows packets, format PRD the
descriptor the walker fetches (30_encoding.md R90).
-/

namespace Sys2Proof

/-- The four windows of a transaction word, bits 14:12 (30_encoding.md R90). -/
inductive Window where
  | cmd
  | ctl
  | bm
  | cfg
  deriving DecidableEq, Repr

/-- Direction, size and, for a write, the data of a transaction (20_memory.md R62: size in 1, 2, 4). -/
inductive Access where
  | r8
  | r16
  | r32
  | w8 (v : Byte)
  | w16 (v : Half)
  | w32 (v : Word)
  deriving DecidableEq, Repr

/-- The instructions of the block. -/
inductive Instr where
  -- format IO: the command window
  | ior16Data
  | iow16Data (v : Half)
  | ior8Error
  | iow8Feature (v : Byte)
  | ior8SectorCount
  | iow8SectorCount (v : Byte)
  | ior8SectorNumber
  | iow8SectorNumber (v : Byte)
  | ior8CylLsb
  | iow8CylLsb (v : Byte)
  | ior8CylMsb
  | iow8CylMsb (v : Byte)
  | ior8DriveHead
  | iow8DriveHead (v : Byte)
  | ior8Status
  | iow8Command (v : Byte)
  -- format IO: the control window
  | ior8Status2
  | iow8Output (v : Byte)
  | ctlInvalid (offset : Byte) (a : Access)
  -- format IO: the bus-master window
  | ior8BmCommand
  | iow8BmCommand (v : Byte)
  | ior8BmReserved
  | iow8BmReserved (v : Byte)
  | ior8BmStatus
  | iow8BmStatus (v : Byte)
  | ior8BmUdma
  | iow8BmUdma (v : Byte)
  | ior8BmPrdptr0
  | iow8BmPrdptr0 (v : Byte)
  | ior8BmPrdptr1
  | iow8BmPrdptr1 (v : Byte)
  | ior8BmPrdptr2
  | iow8BmPrdptr2 (v : Byte)
  | ior8BmPrdptr3
  | iow8BmPrdptr3 (v : Byte)
  | bmOtherChannel (offset : Byte) (a : Access)
  | bmMultibyte (offset : Byte) (a : Access)
  -- format IO: the configuration alias and the accesses that go wrong
  | cfgAlias (offset : Byte) (a : Access)
  | widthError (w : Window) (offset : Byte) (a : Access)
  | droppedWrite (w : Window) (offset : Byte) (a : Access)
  -- format ATA: command bytes
  | readSector
  | writeSector
  | packet
  | identifyPacket
  | readDma
  | writeDma
  | standbyImmediate
  | sleep
  | flushCache
  | identify
  | setFeatures
  | ataUnknown (opcode : Byte)
  -- format PKT: packets
  | requestSense (alloc : Byte)
  | inquiry (alloc : Byte)
  | modeSense6 (pc : BitVec 2) (page : BitVec 6) (alloc : Byte)
  | modeSense10 (pc : BitVec 2) (page : BitVec 6) (alloc : Half)
  | readToc (msf : Bool) (format : BitVec 4) (track : Byte) (alloc : Half)
  | readDvdStructure (address : Word) (layer format : Byte) (alloc : Half)
  | read10 (lba : Word) (len : Half)
  | read12 (lba : Word) (len : Word)
  | readCd (lba : Word) (len : BitVec 24) (sub : Byte) (subch : BitVec 3)
  | pktUnknown (opcode : Byte)
  -- format PRD: the descriptor
  | prdEntry (address : Word) (count : Half) (ignored : BitVec 15) (eot : Bool)
  deriving DecidableEq, Repr

end Sys2Proof
end

