-- ==== Sys2Proof/WellFormed.lean ====
section
/-!
DEFINITION. Which terms of Instr are instructions: the operand values an encoding admits.
-/

namespace Sys2Proof

/-- The size in bytes of an access (20_memory.md R62). -/
def Access.size : Access → Nat
  | .r8 => 1
  | .r16 => 2
  | .r32 => 4
  | .w8 _ => 1
  | .w16 _ => 2
  | .w32 _ => 4

/-- Whether an access is a write. -/
def Access.isWrite : Access → Bool
  | .r8 => false
  | .r16 => false
  | .r32 => false
  | .w8 _ => true
  | .w16 _ => true
  | .w32 _ => true

/-- The one legal size of a register of the CMD and CTL windows: 2 for DATA, 1 for every other (20_memory.md R73). -/
def legalSize (w : Window) (offset : Byte) : Nat :=
  match w with
  | .cmd => if offset = 0 then 2 else 1
  | .ctl => 1
  | .bm => 1
  | .cfg => 1

/-- The offset lies in the window: CMD has 8 offsets; any offset byte is taken as one of CTL's, BM's or CFG's
(20_memory.md R61; log 9, log 10). -/
def Window.hasOffset (w : Window) (offset : Byte) : Bool :=
  match w with
  | .cmd => decide (offset.toNat < 8)
  | .ctl => true
  | .bm => true
  | .cfg => true

/-- The eight bus-master offsets this channel owns (20_memory.md R61). -/
def Channel.owns (ch : Channel) (offset : Byte) : Bool :=
  decide (ch.base ≤ offset.toNat ∧ offset.toNat < ch.base + 8)

/-- The eleven command bytes of 30_encoding.md R102. -/
def ataOpcodes : List Byte :=
  [0x20, 0x30, 0xA0, 0xA1, 0xC8, 0xCA, 0xE0, 0xE6, 0xE7, 0xEC, 0xEF]

/-- The nine packet opcodes of 30_encoding.md R116. -/
def packetOpcodes : List Byte :=
  [0x03, 0x12, 0x1A, 0x5A, 0x43, 0xAD, 0x28, 0xA8, 0xBE]

/-- Well-formedness on channel `ch`: an operand that another row claims is refused. -/
def Instr.wellFormed (ch : Channel) : Instr → Bool
  | .ctlInvalid offset _ => offset != 6
  | .bmOtherChannel offset a => !ch.owns offset && a.size == 1
  | .bmMultibyte _ a => a.size != 1
  | .widthError .cmd offset a => Window.hasOffset .cmd offset && a.size != legalSize .cmd offset
  | .widthError .ctl offset a => offset == 6 && a.size != legalSize .ctl offset
  | .widthError .bm _ _ => false
  | .widthError .cfg _ _ => false
  | .droppedWrite .cmd offset a => Window.hasOffset .cmd offset && a.isWrite
  | .droppedWrite .ctl _ a => a.isWrite
  | .droppedWrite .bm _ _ => false
  | .droppedWrite .cfg _ _ => false
  | .ataUnknown op => !ataOpcodes.contains op
  | .pktUnknown op => !packetOpcodes.contains op
  | .ior16Data | .iow16Data _ | .ior8Error | .iow8Feature _ | .ior8SectorCount | .iow8SectorCount _
  | .ior8SectorNumber | .iow8SectorNumber _ | .ior8CylLsb | .iow8CylLsb _ | .ior8CylMsb | .iow8CylMsb _
  | .ior8DriveHead | .iow8DriveHead _ | .ior8Status | .iow8Command _ | .ior8Status2 | .iow8Output _
  | .ior8BmCommand | .iow8BmCommand _ | .ior8BmReserved | .iow8BmReserved _ | .ior8BmStatus
  | .iow8BmStatus _ | .ior8BmUdma | .iow8BmUdma _ | .ior8BmPrdptr0 | .iow8BmPrdptr0 _ | .ior8BmPrdptr1
  | .iow8BmPrdptr1 _ | .ior8BmPrdptr2 | .iow8BmPrdptr2 _ | .ior8BmPrdptr3 | .iow8BmPrdptr3 _
  | .cfgAlias _ _ | .readSector | .writeSector | .packet | .identifyPacket | .readDma | .writeDma
  | .standbyImmediate | .sleep | .flushCache | .identify | .setFeatures | .requestSense _ | .inquiry _
  | .modeSense6 _ _ _ | .modeSense10 _ _ _ | .readToc _ _ _ _ | .readDvdStructure _ _ _ _ | .read10 _ _
  | .read12 _ _ | .readCd _ _ _ _ | .prdEntry _ _ _ _ => true

end Sys2Proof
end

