-- ==== Sys2Proof/Decode.lean ====
section
/-!
DEFINITION. Byte order, the decoder (total on any bytes, refusing by name) and the encoder, both from the maps of
30_encoding.md, and the layout of a table row's bits as a request.
-/

namespace Sys2Proof

/-! ## Byte order -/

/-- `LE16(b0, b1)`: the first byte is bits 7:0 (00_scope.md R12). -/
def le16 (b0 b1 : Byte) : Half := b1 ++ b0

/-- `LE32(b0..b3)` (00_scope.md R12). -/
def le32 (b0 b1 b2 b3 : Byte) : Word := b3 ++ b2 ++ b1 ++ b0

/-- `BE16(a, b)`: the first byte is the more significant (30_encoding.md R118). -/
def be16 (a b : Byte) : Half := a ++ b

/-- `BE24(a, b, c)` (30_encoding.md R118). -/
def be24 (a b c : Byte) : BitVec 24 := a ++ b ++ c

/-- `BE32(a, b, c, e)` (30_encoding.md R118). -/
def be32 (a b c e : Byte) : Word := a ++ b ++ c ++ e

/-- Byte `i` of a vector, bits `8i+7 : 8i`. -/
def byteOf {n : Nat} (v : BitVec n) (i : Nat) : Byte := v.extractLsb' (8 * i) 8

/-! ## Requests -/

/-- The four formats of 30_encoding.md R90. -/
inductive Format where
  | io
  | ata
  | pkt
  | prd
  deriving DecidableEq, Repr

/-- Why bytes are no instruction. -/
inductive DecodeError where
  /-- The bytes of the request are too few or too many for its format. -/
  | badLength
  /-- The size beside the transaction word is none of 1, 2, 4, or not the size of the data (20_memory.md R62). -/
  | badSize
  /-- Bits 11:8 of the transaction word are not 0 (30_encoding.md R90). -/
  | reservedBits
  /-- Bits 14:12 of the transaction word name no window (30_encoding.md R90). -/
  | noWindow
  /-- The offset is outside the window (20_memory.md R61). -/
  | noOffset
  deriving DecidableEq, Repr

/-- What decoding depends on besides the bytes: the channel (43_busmaster_dma.md R240) and whether a deferred
operation is outstanding (40_register_access.md R130, test 4). -/
structure DecodeContext where
  channel : Channel
  busy : Bool
  deriving DecidableEq, Repr

/-- The window numbers of 30_encoding.md R90. -/
def windowCode : Window → BitVec 3
  | .cmd => 0
  | .ctl => 1
  | .bm => 2
  | .cfg => 3

/-- The window a number names. -/
def windowOf (n : BitVec 3) : Option Window :=
  if n = 0 then some .cmd
  else if n = 1 then some .ctl
  else if n = 2 then some .bm
  else if n = 3 then some .cfg
  else none

/-! ## Decoding -/

/-- Direction, size and data of a transaction: a read carries no data, a write exactly `size` bytes, the byte at
the lowest offset first (20_memory.md R62, R71). -/
def decodeAccess (wr : Bool) (size : Byte) (data : List Byte) : Except DecodeError Access :=
  match wr, data with
  | false, [] =>
    if size = 1 then .ok .r8 else if size = 2 then .ok .r16 else if size = 4 then .ok .r32 else .error .badSize
  | false, _ :: _ => .error .badLength
  | true, [] => .error .badLength
  | true, [a] => if size = 1 then .ok (.w8 a) else .error .badSize
  | true, [a, b] => if size = 2 then .ok (.w16 (le16 a b)) else .error .badSize
  | true, [_, _, _] => .error .badLength
  | true, [a, b, c, e] => if size = 4 then .ok (.w32 (le32 a b c e)) else .error .badSize
  | true, _ :: _ :: _ :: _ :: _ :: _ => .error .badLength

/-- A register of one byte with a read side and a write side; an access of another size is `other`. -/
def byteRegister (read : Instr) (write : Byte → Instr) (other : Access → Instr) (a : Access) : Instr :=
  match a with
  | .r8 => read
  | .w8 v => write v
  | .r16 => other .r16
  | .r32 => other .r32
  | .w16 v => other (.w16 v)
  | .w32 v => other (.w32 v)

/-- The data register, the one register of two bytes (20_memory.md R73). -/
def dataRegister (other : Access → Instr) (a : Access) : Instr :=
  match a with
  | .r16 => .ior16Data
  | .w16 v => .iow16Data v
  | .r8 => other .r8
  | .r32 => other .r32
  | .w8 v => other (.w8 v)
  | .w32 v => other (.w32 v)

/-- The register of the command window at an offset; an access of another size is the width error
(30_encoding.md R91; 40_register_access.md R130 tests 6 and 7). -/
def decodeCmd (offset : Byte) (a : Access) : Instr :=
  match offset.toNat with
  | 0 => dataRegister (.widthError .cmd offset) a
  | 1 => byteRegister .ior8Error .iow8Feature (.widthError .cmd offset) a
  | 2 => byteRegister .ior8SectorCount .iow8SectorCount (.widthError .cmd offset) a
  | 3 => byteRegister .ior8SectorNumber .iow8SectorNumber (.widthError .cmd offset) a
  | 4 => byteRegister .ior8CylLsb .iow8CylLsb (.widthError .cmd offset) a
  | 5 => byteRegister .ior8CylMsb .iow8CylMsb (.widthError .cmd offset) a
  | 6 => byteRegister .ior8DriveHead .iow8DriveHead (.widthError .cmd offset) a
  | 7 => byteRegister .ior8Status .iow8Command (.widthError .cmd offset) a
  | _ => .widthError .cmd offset a

/-- The register of the control window: offset 6 only (30_encoding.md R92; 40_register_access.md R130 tests 5
to 7, R157). -/
def decodeCtl (offset : Byte) (a : Access) : Instr :=
  if offset = 6 then byteRegister .ior8Status2 .iow8Output (.widthError .ctl offset) a else .ctlInvalid offset a

/-- The bus-master byte register `k` places above the channel's first offset (30_encoding.md R93). -/
def decodeBmByte (k : Nat) (offset : Byte) (a : Access) : Instr :=
  match k with
  | 0 => byteRegister .ior8BmCommand .iow8BmCommand (.bmMultibyte offset) a
  | 1 => byteRegister .ior8BmReserved .iow8BmReserved (.bmMultibyte offset) a
  | 2 => byteRegister .ior8BmStatus .iow8BmStatus (.bmMultibyte offset) a
  | 3 => byteRegister .ior8BmUdma .iow8BmUdma (.bmMultibyte offset) a
  | 4 => byteRegister .ior8BmPrdptr0 .iow8BmPrdptr0 (.bmMultibyte offset) a
  | 5 => byteRegister .ior8BmPrdptr1 .iow8BmPrdptr1 (.bmMultibyte offset) a
  | 6 => byteRegister .ior8BmPrdptr2 .iow8BmPrdptr2 (.bmMultibyte offset) a
  | 7 => byteRegister .ior8BmPrdptr3 .iow8BmPrdptr3 (.bmMultibyte offset) a
  | _ => .bmOtherChannel offset a

/-- A bus-master access: bytes by register, wider ones as a whole (43_busmaster_dma.md R240). -/
def decodeBm (ch : Channel) (offset : Byte) (a : Access) : Instr :=
  if a.size = 1 then
    if ch.owns offset then decodeBmByte (offset.toNat - ch.base) offset a else .bmOtherChannel offset a
  else .bmMultibyte offset a

/-- The tests (2) to (7) of 40_register_access.md R130 on a transaction already split into window, offset and
access. -/
def decodeTransaction (cx : DecodeContext) (w : Window) (offset : Byte) (a : Access) :
    Except DecodeError Instr :=
  match w with
  | .cfg => .ok (.cfgAlias offset a)
  | .bm => .ok (decodeBm cx.channel offset a)
  | .cmd =>
    if !Window.hasOffset .cmd offset then .error .noOffset
    else if cx.busy && a.isWrite then .ok (.droppedWrite .cmd offset a)
    else .ok (decodeCmd offset a)
  | .ctl =>
    if cx.busy && a.isWrite then .ok (.droppedWrite .ctl offset a)
    else .ok (decodeCtl offset a)

/-- A transaction: the two bytes of the transaction word, low byte first, the size, the data
(30_encoding.md R90: "The size and the data travel beside `T`, not in it"). -/
def decodeIo (cx : DecodeContext) (bytes : List Byte) : Except DecodeError Instr :=
  match bytes with
  | t0 :: t1 :: size :: data =>
    if t1.extractLsb' 0 4 ≠ 0 then .error .reservedBits
    else
      match windowOf (t1.extractLsb' 4 3), decodeAccess (t1.getLsbD 7) size data with
      | none, _ => .error .noWindow
      | some _, .error e => .error e
      | some w, .ok a => decodeTransaction cx w t0 a
  | _ => .error .badLength

/-- The opcode map of format ATA (30_encoding.md R102); every other byte is the default row (R122 a). -/
def decodeAta (v : Byte) : Instr :=
  if v = 0x20 then .readSector
  else if v = 0x30 then .writeSector
  else if v = 0xA0 then .packet
  else if v = 0xA1 then .identifyPacket
  else if v = 0xC8 then .readDma
  else if v = 0xCA then .writeDma
  else if v = 0xE0 then .standbyImmediate
  else if v = 0xE6 then .sleep
  else if v = 0xE7 then .flushCache
  else if v = 0xEC then .identify
  else if v = 0xEF then .setFeatures
  else .ataUnknown v

/-- The opcode map and the fields of format PKT (30_encoding.md R115 to R119); bytes that are not named are
ignored. -/
def decodePacket (p0 p1 p2 p3 p4 p5 p6 p7 p8 p9 p10 : Byte) : Instr :=
  if p0 = 0x03 then .requestSense p4
  else if p0 = 0x12 then .inquiry p4
  else if p0 = 0x1A then .modeSense6 (p2.extractLsb' 6 2) (p2.extractLsb' 0 6) p4
  else if p0 = 0x5A then .modeSense10 (p2.extractLsb' 6 2) (p2.extractLsb' 0 6) (be16 p7 p8)
  else if p0 = 0x43 then .readToc (p1.getLsbD 1) (p2.extractLsb' 0 4) p6 (be16 p7 p8)
  else if p0 = 0xAD then .readDvdStructure (be32 p2 p3 p4 p5) p6 p7 (be16 p8 p9)
  else if p0 = 0x28 then .read10 (be32 p2 p3 p4 p5) (be16 p7 p8)
  else if p0 = 0xA8 then .read12 (be32 p2 p3 p4 p5) (be32 p6 p7 p8 p9)
  else if p0 = 0xBE then .readCd (be32 p2 p3 p4 p5) (be24 p6 p7 p8) p9 (p10.extractLsb' 0 3)
  else .pktUnknown p0

/-- The packet in the first twelve bytes of a list. -/
def decodePacketBytes (bytes : List Byte) : Except DecodeError Instr :=
  match bytes with
  | [p0, p1, p2, p3, p4, p5, p6, p7, p8, p9, p10, _] =>
    .ok (decodePacket p0 p1 p2 p3 p4 p5 p6 p7 p8 p9 p10)
  | _ => .error .badLength

/-- The PRD entry: two little-endian words (20_memory.md R69; 30_encoding.md R113). -/
def decodePrd (bytes : List Byte) : Except DecodeError Instr :=
  match bytes with
  | [b0, b1, b2, b3, b4, b5, b6, b7] =>
    .ok (.prdEntry (le32 b0 b1 b2 b3) (le16 b4 b5) ((le16 b6 b7).extractLsb' 0 15) (b7.getLsbD 7))
  | _ => .error .badLength

/-- The decoder: total on any bytes of any format. -/
def decode (cx : DecodeContext) (f : Format) (bytes : List Byte) : Except DecodeError Instr :=
  match f with
  | .io => decodeIo cx bytes
  | .ata =>
    match bytes with
    | [v] => .ok (decodeAta v)
    | _ => .error .badLength
  | .pkt => decodePacketBytes bytes
  | .prd => decodePrd bytes

/-! ## Encoding -/

/-- The size byte and the data bytes of an access, the lowest first. -/
def accessBytes : Access → List Byte
  | .r8 => [1]
  | .r16 => [2]
  | .r32 => [4]
  | .w8 v => [1, v]
  | .w16 v => [2, byteOf v 0, byteOf v 1]
  | .w32 v => [4, byteOf v 0, byteOf v 1, byteOf v 2, byteOf v 3]

/-- The high byte of a transaction word: direction, window, four zeros (30_encoding.md R90). -/
def ioHighByte (w : Window) (wr : Bool) : Byte := BitVec.ofBool wr ++ windowCode w ++ 0#4

/-- The bytes of a transaction. -/
def ioBytes (w : Window) (offset : Byte) (a : Access) : List Byte :=
  offset :: ioHighByte w a.isWrite :: accessBytes a

/-- The transaction of a bus-master byte register. -/
def bmBytes (ch : Channel) (k : Nat) (a : Access) : List Byte :=
  ioBytes .bm (BitVec.ofNat 8 (ch.base + k)) a

/-- The twelve bytes of a packet. A byte or a bit that no field of 30_encoding.md R117 names is 0 (DESIGN CHOICE,
log 26). -/
def encodePacket : Instr → List Byte
  | .requestSense alloc => [0x03, 0, 0, 0, alloc, 0, 0, 0, 0, 0, 0, 0]
  | .inquiry alloc => [0x12, 0, 0, 0, alloc, 0, 0, 0, 0, 0, 0, 0]
  | .modeSense6 pc page alloc => [0x1A, 0, pc ++ page, 0, alloc, 0, 0, 0, 0, 0, 0, 0]
  | .modeSense10 pc page alloc =>
    [0x5A, 0, pc ++ page, 0, 0, 0, 0, byteOf alloc 1, byteOf alloc 0, 0, 0, 0]
  | .readToc msf format track alloc =>
    [0x43, 0#6 ++ BitVec.ofBool msf ++ 0#1, 0#4 ++ format, 0, 0, 0, track, byteOf alloc 1, byteOf alloc 0,
      0, 0, 0]
  | .readDvdStructure address layer format alloc =>
    [0xAD, 0, byteOf address 3, byteOf address 2, byteOf address 1, byteOf address 0, layer, format,
      byteOf alloc 1, byteOf alloc 0, 0, 0]
  | .read10 lba len =>
    [0x28, 0, byteOf lba 3, byteOf lba 2, byteOf lba 1, byteOf lba 0, 0, byteOf len 1, byteOf len 0, 0, 0, 0]
  | .read12 lba len =>
    [0xA8, 0, byteOf lba 3, byteOf lba 2, byteOf lba 1, byteOf lba 0, byteOf len 3, byteOf len 2,
      byteOf len 1, byteOf len 0, 0, 0]
  | .readCd lba len sub subch =>
    [0xBE, 0, byteOf lba 3, byteOf lba 2, byteOf lba 1, byteOf lba 0, byteOf len 2, byteOf len 1,
      byteOf len 0, sub, 0#5 ++ subch, 0]
  | .pktUnknown op => [op, 0, 0, 0, 0, 0, 0, 0, 0, 0, 0, 0]
  | .ior16Data | .iow16Data _ | .ior8Error | .iow8Feature _ | .ior8SectorCount | .iow8SectorCount _
  | .ior8SectorNumber | .iow8SectorNumber _ | .ior8CylLsb | .iow8CylLsb _ | .ior8CylMsb | .iow8CylMsb _
  | .ior8DriveHead | .iow8DriveHead _ | .ior8Status | .iow8Command _ | .ior8Status2 | .iow8Output _
  | .ctlInvalid _ _ | .ior8BmCommand | .iow8BmCommand _ | .ior8BmReserved | .iow8BmReserved _ | .ior8BmStatus
  | .iow8BmStatus _ | .ior8BmUdma | .iow8BmUdma _ | .ior8BmPrdptr0 | .iow8BmPrdptr0 _ | .ior8BmPrdptr1
  | .iow8BmPrdptr1 _ | .ior8BmPrdptr2 | .iow8BmPrdptr2 _ | .ior8BmPrdptr3 | .iow8BmPrdptr3 _
  | .bmOtherChannel _ _ | .bmMultibyte _ _ | .cfgAlias _ _ | .widthError _ _ _ | .droppedWrite _ _ _
  | .readSector | .writeSector | .packet | .identifyPacket | .readDma | .writeDma | .standbyImmediate | .sleep
  | .flushCache | .identify | .setFeatures | .ataUnknown _ | .prdEntry _ _ _ _ => []

/-- The format and the bytes of an instruction on channel `ch`. -/
def encode (ch : Channel) (i : Instr) : Format × List Byte :=
  match i with
  | .ior16Data => (.io, ioBytes .cmd 0 .r16)
  | .iow16Data v => (.io, ioBytes .cmd 0 (.w16 v))
  | .ior8Error => (.io, ioBytes .cmd 1 .r8)
  | .iow8Feature v => (.io, ioBytes .cmd 1 (.w8 v))
  | .ior8SectorCount => (.io, ioBytes .cmd 2 .r8)
  | .iow8SectorCount v => (.io, ioBytes .cmd 2 (.w8 v))
  | .ior8SectorNumber => (.io, ioBytes .cmd 3 .r8)
  | .iow8SectorNumber v => (.io, ioBytes .cmd 3 (.w8 v))
  | .ior8CylLsb => (.io, ioBytes .cmd 4 .r8)
  | .iow8CylLsb v => (.io, ioBytes .cmd 4 (.w8 v))
  | .ior8CylMsb => (.io, ioBytes .cmd 5 .r8)
  | .iow8CylMsb v => (.io, ioBytes .cmd 5 (.w8 v))
  | .ior8DriveHead => (.io, ioBytes .cmd 6 .r8)
  | .iow8DriveHead v => (.io, ioBytes .cmd 6 (.w8 v))
  | .ior8Status => (.io, ioBytes .cmd 7 .r8)
  | .iow8Command v => (.io, ioBytes .cmd 7 (.w8 v))
  | .ior8Status2 => (.io, ioBytes .ctl 6 .r8)
  | .iow8Output v => (.io, ioBytes .ctl 6 (.w8 v))
  | .ctlInvalid offset a => (.io, ioBytes .ctl offset a)
  | .ior8BmCommand => (.io, bmBytes ch 0 .r8)
  | .iow8BmCommand v => (.io, bmBytes ch 0 (.w8 v))
  | .ior8BmReserved => (.io, bmBytes ch 1 .r8)
  | .iow8BmReserved v => (.io, bmBytes ch 1 (.w8 v))
  | .ior8BmStatus => (.io, bmBytes ch 2 .r8)
  | .iow8BmStatus v => (.io, bmBytes ch 2 (.w8 v))
  | .ior8BmUdma => (.io, bmBytes ch 3 .r8)
  | .iow8BmUdma v => (.io, bmBytes ch 3 (.w8 v))
  | .ior8BmPrdptr0 => (.io, bmBytes ch 4 .r8)
  | .iow8BmPrdptr0 v => (.io, bmBytes ch 4 (.w8 v))
  | .ior8BmPrdptr1 => (.io, bmBytes ch 5 .r8)
  | .iow8BmPrdptr1 v => (.io, bmBytes ch 5 (.w8 v))
  | .ior8BmPrdptr2 => (.io, bmBytes ch 6 .r8)
  | .iow8BmPrdptr2 v => (.io, bmBytes ch 6 (.w8 v))
  | .ior8BmPrdptr3 => (.io, bmBytes ch 7 .r8)
  | .iow8BmPrdptr3 v => (.io, bmBytes ch 7 (.w8 v))
  | .bmOtherChannel offset a => (.io, ioBytes .bm offset a)
  | .bmMultibyte offset a => (.io, ioBytes .bm offset a)
  | .cfgAlias offset a => (.io, ioBytes .cfg offset a)
  | .widthError w offset a => (.io, ioBytes w offset a)
  | .droppedWrite w offset a => (.io, ioBytes w offset a)
  | .readSector => (.ata, [0x20])
  | .writeSector => (.ata, [0x30])
  | .packet => (.ata, [0xA0])
  | .identifyPacket => (.ata, [0xA1])
  | .readDma => (.ata, [0xC8])
  | .writeDma => (.ata, [0xCA])
  | .standbyImmediate => (.ata, [0xE0])
  | .sleep => (.ata, [0xE6])
  | .flushCache => (.ata, [0xE7])
  | .identify => (.ata, [0xEC])
  | .setFeatures => (.ata, [0xEF])
  | .ataUnknown op => (.ata, [op])
  | .requestSense alloc => (.pkt, encodePacket (.requestSense alloc))
  | .inquiry alloc => (.pkt, encodePacket (.inquiry alloc))
  | .modeSense6 pc page alloc => (.pkt, encodePacket (.modeSense6 pc page alloc))
  | .modeSense10 pc page alloc => (.pkt, encodePacket (.modeSense10 pc page alloc))
  | .readToc msf format track alloc => (.pkt, encodePacket (.readToc msf format track alloc))
  | .readDvdStructure address layer format alloc =>
    (.pkt, encodePacket (.readDvdStructure address layer format alloc))
  | .read10 lba len => (.pkt, encodePacket (.read10 lba len))
  | .read12 lba len => (.pkt, encodePacket (.read12 lba len))
  | .readCd lba len sub subch => (.pkt, encodePacket (.readCd lba len sub subch))
  | .pktUnknown op => (.pkt, encodePacket (.pktUnknown op))
  | .prdEntry address count ignored eot =>
    (.prd, [byteOf address 0, byteOf address 1, byteOf address 2, byteOf address 3,
      byteOf count 0, byteOf count 1, ignored.extractLsb' 0 8,
      BitVec.ofBool eot ++ ignored.extractLsb' 8 7])

/-- The context in which an instruction's bytes are that instruction: a dropped write is one only while a
deferred operation is outstanding (40_register_access.md R130, test 4). -/
def Instr.context (ch : Channel) : Instr → DecodeContext
  | .droppedWrite _ _ _ => { channel := ch, busy := true }
  | _ => { channel := ch, busy := false }

/-! ## The rows of the opcode table -/

/-- Bytes `0` to `n - 1` of a number, the lowest first. -/
def natBytes (n w : Nat) : List Byte := (List.range n).map fun i => BitVec.ofNat 8 (w / 256 ^ i)

/-- The size put beside a transaction word of the table: the register's legal size; 2 at a bus-master offset past
15, whose word only BM_MULTIBYTE's row matches (log 15). -/
def tableSize (w : Window) (offset : Byte) : Nat :=
  match w with
  | .bm => if offset.toNat < 16 then 1 else 2
  | .cmd => legalSize .cmd offset
  | .ctl => legalSize .ctl offset
  | .cfg => legalSize .cfg offset

/-- The request whose bits are `w`, as the opcode table numbers them, every bit above `nbits` being 0: 16 bits
are a transaction word, with `tableSize` and data 0 beside it; 8 bits are a command byte or, for
the nine packet opcodes, the first byte of a packet of zeros; 64 bits are a descriptor (log 15). -/
def tableRequest (nbits w : Nat) : Option (Format × List Byte) :=
  if nbits = 8 then
    let op : Byte := BitVec.ofNat 8 w
    if packetOpcodes.contains op then some (.pkt, natBytes 12 (w % 256)) else some (.ata, [op])
  else if nbits = 16 then
    let t0 : Byte := BitVec.ofNat 8 w
    let t1 : Byte := BitVec.ofNat 8 (w / 256)
    let size := match windowOf (t1.extractLsb' 4 3) with
      | some win => tableSize win t0
      | none => 1
    let data := if t1.getLsbD 7 then List.replicate size 0 else []
    some (.io, t0 :: t1 :: BitVec.ofNat 8 size :: data)
  else if nbits = 64 then some (.prd, natBytes 8 w)
  else none

/-- The context of a table row: `P_CHANNEL = 0` ("row written for P_CHANNEL = 0"), no deferred operation. -/
def tableContext : DecodeContext := { channel := .primary, busy := false }

/-- The instruction the decoder reads from a row's bits. -/
def decodeTableWord (nbits w : Nat) : Option Instr :=
  match tableRequest nbits w with
  | none => none
  | some (f, bytes) =>
    match decode tableContext f bytes with
    | .ok i => some i
    | .error _ => none

end Sys2Proof
end

