-- ==== Sys2Proof/Machine/State.lean ====
section
/-!
DEFINITION. The state of one channel (10_state.md R20 to R44), plain data, with the environment's data behind the
block's interfaces, the parameters of the instance, and the reasons a step can stop.
-/

namespace Sys2Proof.Machine

/-- The protocol state of a drive (10_state.md R34). -/
inductive DriveState where
  | idle
  | pioRead
  | pioWrite
  | packetReceive
  | dmaActive
  deriving DecidableEq, Repr

/-- The data model's transfer mode, a function of the protocol state (10_state.md R34; 90_conflicts.md C3). -/
inductive TransferMode where
  | none
  | read
  | write
  | dma
  deriving DecidableEq, Repr

/-- `mode(d.state)` (10_state.md R34). No rule reads it. -/
def DriveState.mode : DriveState → TransferMode
  | .idle => .none
  | .pioRead => .read
  | .pioWrite => .write
  | .packetReceive => .write
  | .dmaActive => .dma

/-- The register file of one drive slot (10_state.md R24 to R35). `sectorCount` is also `intrReason` (R27) and
`cylinder` is also `byteCount` (R29): one element, two names. `buffer` lists the bytes written since reset from
position 0 on; a position past its end holds 0, the value the model names for a buffer byte at reset (log 2). -/
structure Drive where
  status : Byte
  error : Byte
  feature : Byte
  sectorCount : Byte
  sectorNumber : Byte
  cylinder : Half
  head : Byte
  outputControl : Byte
  command : Byte
  dmaLbaStart : Word
  dmaLbaCount : Nat
  state : DriveState
  buffer : List Byte
  sectorPos : Nat
  unitSize : Nat
  drqPos : Nat
  deriving DecidableEq, Repr

/-- The CD-ROM sub-state of one drive slot (10_state.md R38). -/
structure CdRom where
  senseKey : BitVec 4
  asc : Byte
  ascq : Byte
  dma : Bool
  nextLba : Word
  remainingSectors : Word
  sectorSize : Nat
  declared : Nat
  remainingBytes : Nat
  deriving DecidableEq, Repr

/-- The channel's bus-master registers (10_state.md R39). Bit 2 of `status` is never stored: INTR is the view of
`irq.pending` (30_encoding.md R110). -/
structure BusMaster where
  command : Byte
  status : Byte
  udmaTiming : Byte
  prdPtr : Word
  deriving DecidableEq, Repr

/-- `slot.op` (10_state.md R41). -/
inductive SlotOp where
  | idle
  | read
  | write
  | exit
  deriving DecidableEq, Repr

/-- The one-entry mailbox between the host and the worker (10_state.md R41). -/
structure Mailbox where
  op : SlotOp
  reg : Window
  port : Nat
  data : Word
  size : Nat
  deriving DecidableEq, Repr

/-- The walker's working registers (10_state.md R42), with the direction and the unit size it reads once at
set-up (43_busmaster_dma.md R248), and `failed`: a device call answered SHORT, the error exit is next (log 16). -/
structure Walker where
  p : Word
  addr : Word
  cnt : Nat
  last : Bool
  pos : Nat
  units : Nat
  lba : Word
  toMem : Bool
  unit : Nat
  failed : Bool
  deriving DecidableEq, Repr

/-- Whether the walker's registers exist (10_state.md R42). `pending`: the worker has found the kick condition
true at the end of a command and its next step is the set-up (43_busmaster_dma.md R247; log 16). -/
inductive Walk where
  | idle
  | pending
  | running (w : Walker)
  deriving DecidableEq, Repr

/-- The reasons of `raise Fatal` (60_exceptions.md R274). -/
inductive FatalReason where
  /-- The byte count is zero at the clipping (42_atapi_packet.md R214). -/
  | byteCountZero
  /-- A stubbed path with `P_FATAL_STUBS` true (42_atapi_packet.md R213). -/
  | unimplemented
  deriving DecidableEq, Repr

/-- Guest physical memory: the bytes that differ from `Config.memoryDefault`, addresses strictly rising. -/
abbrev Memory := List Host.Cell

/-- A backing device as its interface shows it (20_memory.md R65): all of it is the environment's data (U10).
`blocks` lists the blocks whose content the state knows, in rising order; `shorts` says for each coming block call
whether it answers SHORT (an empty list: no). Log 7. -/
structure Device where
  ready : Bool
  capacity : Nat
  position : Nat
  blockSize : Nat
  blocks : List (Nat × List Byte)
  shorts : List Bool
  deriving DecidableEq, Repr

/-- The calls of the device interface (20_memory.md R65). -/
inductive DeviceCall where
  | acquire
  | release
  | seek (lba : Nat)
  | readBlock (n : Nat)
  | writeBlock (n : Nat)
  | setMode (n : Nat)
  | flush
  | isReady
  | getCapacity
  deriving DecidableEq, Repr

/-- The events at the block's boundary (20_memory.md R63 to R66). -/
inductive Event where
  | irqRaise
  | irqCancel
  | device (d : DriveId) (c : DeviceCall)
  | dmaRead (addr : Word) (n : Nat)
  | dmaWrite (addr : Word) (n : Nat)
  /-- A configuration-space access that is not this block's, handed to the PCI framework (R63; log 11). -/
  | framework (offset : Byte) (a : Access)
  deriving DecidableEq, Repr

/-- What happens next (20_memory.md R77): a request of the host, a turn of the worker, or a change of the
environment. Log 8, log 16. -/
inductive Input where
  | request (f : Format) (bytes : List Byte)
  | worker
  | memoryStore (addr : Word) (v : Byte)
  | deviceChange (d : DriveId) (x : Device)
  deriving DecidableEq, Repr

/-- The state. -/
structure State where
  cfg : ChannelConfig
  selectedDrive : DriveId
  drives : Pair Drive
  cds : Pair CdRom
  bm : BusMaster
  irqPending : Bool
  irqLine : Bool
  slot : Mailbox
  walk : Walk
  fault : Option FatalReason
  locks : Pair Bool
  mem : Memory
  devices : Pair Device
  inbox : List Input
  rdata : Word
  events : List Event
  freeCount : Nat
  deriving DecidableEq, Repr

/-- Why a step stops with a fault. -/
inductive Fault where
  /-- Raised by every step, and every meaning, while `ch.fault` is set: "From then on the block takes no step"
  (60_exceptions.md R274, 93_implementation_defined.md U4). Safe: the spec gives no further step. -/
  | blockFaulted (r : FatalReason)
  deriving DecidableEq, Repr

/-- Why a step is refused. -/
inductive Refusal where
  /-- Raised by exec's arm of an instruction that has no meaning yet. Safe. -/
  | notModelled (mnemonic : String)
  /-- Raised by step when the bytes of a request are no instruction (log 9). Safe. -/
  | undecodable (e : DecodeError)
  /-- Raised where a walk would start with `bm.command[3]` against the drive's command: "a model treats such a
  kick as outside the specified behaviour" (43_busmaster_dma.md R249, 93_implementation_defined.md U3; log 13).
  Safe. -/
  | directionMismatch
  deriving DecidableEq, Repr

/-- The register file after reset (10_state.md R46). -/
def Drive.reset (c : DriveConfig) (d : DriveId) : Drive where
  status := if c.installed then 0x40 else 0x01
  error := if c.installed then 0x00 else 0x04
  feature := 0x00
  sectorCount := 0x01
  sectorNumber := 0x01
  cylinder := match c.protocol with | .atapi => 0xEB14 | .ata => 0x0000
  head := match d with | .master => 0x00 | .slave => 0x10
  outputControl := 0x00
  command := 0x00
  dmaLbaStart := 0
  dmaLbaCount := 0
  state := .idle
  buffer := []
  sectorPos := 0
  unitSize := 512
  drqPos := 0

/-- The CD-ROM sub-state after reset (10_state.md R46). -/
def CdRom.reset : CdRom where
  senseKey := 0
  asc := 0
  ascq := 0
  dma := false
  nextLba := 0
  remainingSectors := 0
  sectorSize := 2048
  declared := 0
  remainingBytes := 0

/-- The channel right after reset, for any parameters and any devices (70_reset_and_hazards.md R310: "take the
parameters ... as given; give every state element the value in the table"). -/
def State.resetWith (c : ChannelConfig) (devices : Pair Device) : State where
  cfg := c
  selectedDrive := .master
  drives := { master := Drive.reset c.drives.master .master, slave := Drive.reset c.drives.slave .slave }
  cds := { master := CdRom.reset, slave := CdRom.reset }
  bm := { command := 0x00, status := 0x00, udmaTiming := 0x00, prdPtr := 0x00000000 }
  irqPending := false
  irqLine := false
  slot := { op := .idle, reg := .cmd, port := 0, data := 0, size := 1 }
  walk := .idle
  fault := none
  locks := { master := false, slave := false }
  mem := []
  devices := devices
  inbox := []
  rdata := 0
  events := []
  freeCount := 0

/-- The devices right after reset, which 70_reset_and_hazards.md R312 leaves to the environment. Configuration K
(95_test_vectors.md section 1) gives that drive 0's never answers SHORT and that drive 1's is ready with 100 blocks.
The rest is the model's: position 0, block sizes 512 and 2048, drive 0's ready with the 4032 blocks of its
`P_CAPACITY`, no SHORT answer scheduled for drive 1's, and no block listed. DESIGN CHOICE, log 7. -/
def standardDevices : Pair Device where
  master := { ready := true, capacity := 4032, position := 0, blockSize := 512, blocks := [], shorts := [] }
  slave := { ready := true, capacity := 100, position := 0, blockSize := 2048, blocks := [], shorts := [] }

/-- The machine right after reset, as an instance of Configuration K (log 1). -/
def State.reset : State := State.resetWith Config.standard standardDevices

end Sys2Proof.Machine
end

