-- ==== Sys2Proof/Machine/Flags.lean ====
section
/-!
DEFINITION. The status, error and interrupt-reason values and every flag computation
(30_encoding.md R99 to R104, R108 to R110).
-/

namespace Sys2Proof.Machine

/-! ## STATUS (30_encoding.md R99, R100) -/

/-- `0x40`: idle, or a command completed without error. -/
def statusReady : Byte := 0x40

/-- `0x48`: a data phase is open. -/
def statusData : Byte := 0x48

/-- `0x41`: a command was aborted or ended in a packet error. -/
def statusError : Byte := 0x41

/-- `0x01`: the drive is not installed. -/
def statusAbsent : Byte := 0x01

/-- `0x80`: a deferred operation on the drive is outstanding. -/
def statusBusy : Byte := 0x80

/-- BSY, bit 7. -/
def isBusy (status : Byte) : Bool := status.getLsbD 7

/-- RDY, bit 6. -/
def isDriveReady (status : Byte) : Bool := status.getLsbD 6

/-- DRQ, bit 3. -/
def isDataRequest (status : Byte) : Bool := status.getLsbD 3

/-- ERR, bit 0. -/
def isError (status : Byte) : Bool := status.getLsbD 0

/-- `status | ERR` (40_register_access.md R156). -/
def withError (status : Byte) : Byte := status ||| 0x01

/-- `status & ~ERR` (40_register_access.md R146). -/
def withoutError (status : Byte) : Byte := status &&& 0xFE

/-! ## ERROR (30_encoding.md R101) -/

/-- `0x00`: success. -/
def errorNone : Byte := 0x00

/-- `0x04`, ABRT: every ATA-level error. -/
def errorAbort : Byte := 0x04

/-- `key << 4`: a packet error. -/
def errorOfKey (key : BitVec 4) : Byte := key ++ 0#4

/-! ## INTR_REASON (30_encoding.md R104) -/

/-- `0x01`: the drive waits for the packet. -/
def reasonPacket : Byte := 0x01

/-- `0x02`: data for the host is ready. -/
def reasonData : Byte := 0x02

/-- `0x03`: the command is complete. -/
def reasonComplete : Byte := 0x03

/-! ## OUTPUT (30_encoding.md R103) -/

/-- nIEN, bit 1: 1 disables the drive's interrupt. -/
def interruptDisabled (output : Byte) : Bool := output.getLsbD 1

/-- SRST, bit 2. -/
def resetRequested (output : Byte) : Bool := output.getLsbD 2

/-! ## DRIVE_HEAD (30_encoding.md R98) -/

/-- DRV, bit 4. -/
def driveSelected (v : Byte) : DriveId := if v.getLsbD 4 then .slave else .master

/-- LBA, bit 6. -/
def isLba (head : Byte) : Bool := head.getLsbD 6

/-- HEAD, bits 3:0. -/
def headNumber (head : Byte) : BitVec 4 := head.extractLsb' 0 4

/-- The head register with bits 3:0 replaced and bits 7:4 kept (41_ata_commands.md R173). -/
def withHeadNumber (head : Byte) (n : BitVec 4) : Byte := head.extractLsb' 4 4 ++ n

/-! ## The bus-master registers (30_encoding.md R108, R110) -/

/-- START, bit 0 of BM_COMMAND. -/
def isStart (command : Byte) : Bool := command.getLsbD 0

/-- RW, bit 3 of BM_COMMAND: 1 for device to memory. -/
def isToMemory (command : Byte) : Bool := command.getLsbD 3

/-- What a BM_COMMAND write stores: START and RW (43_busmaster_dma.md R242). -/
def storedCommand (v : Byte) : Byte := v &&& 0x09

/-- BM_STATUS with ACTIVE set. -/
def withActive (status : Byte) : Byte := status ||| 0x01

/-- BM_STATUS with ACTIVE cleared. -/
def withoutActive (status : Byte) : Byte := status &&& 0xFE

/-- BM_STATUS with ERROR set. -/
def withDmaError (status : Byte) : Byte := status ||| 0x02

/-- BM_STATUS with ERROR cleared. -/
def withoutDmaError (status : Byte) : Byte := status &&& 0xFD

/-- What a BM_STATUS read returns: the stored bits with INTR taken from `irq.pending`
(43_busmaster_dma.md R243). -/
def statusView (status : Byte) (pending : Bool) : Byte :=
  (status &&& 0xFB) ||| (if pending then 0x04 else 0x00)

/-- What a BM_STATUS write leaves stored: ERROR is write-1-to-clear; bits 6:5 and the blocked bits are plain
storage; ACTIVE is not writable (43_busmaster_dma.md R244). -/
def writtenStatus (iblkMask status v : Byte) : Byte :=
  let cleared := if v.getLsbD 1 then withoutDmaError status else status
  let plain := 0x60 ||| iblkMask
  (cleared &&& ~~~plain) ||| (v &&& plain)

/-- The interrupts are administratively blocked (60_exceptions.md R280 b). -/
def isBlocked (iblkMask status : Byte) : Bool := (status &&& iblkMask) != 0

end Sys2Proof.Machine
end

