-- ==== Sys2Proof/Machine/Memory.lean ====
section
/-!
DEFINITION. Sparse data by key in one canonical form, guest physical memory over it, and the sector buffer.
-/

namespace Sys2Proof.Machine

/-! ## Sparse data: keys strictly rising -/

/-- The value listed at a key. -/
def sparseGet {α : Type} : List (Nat × α) → Nat → Option α
  | [], _ => none
  | (k, v) :: rest, a => if k = a then some v else sparseGet rest a

/-- The data with the value at a key listed or replaced. -/
def sparsePut {α : Type} : List (Nat × α) → Nat → α → List (Nat × α)
  | [], a, v => [(a, v)]
  | (k, w) :: rest, a, v =>
    if a < k then (a, v) :: (k, w) :: rest
    else if a = k then (a, v) :: rest
    else (k, w) :: sparsePut rest a v

/-- The data with no entry at a key. -/
def sparseErase {α : Type} : List (Nat × α) → Nat → List (Nat × α)
  | [], _ => []
  | (k, w) :: rest, a => if k = a then rest else (k, w) :: sparseErase rest a

/-- The keys are strictly rising. -/
def sparseRising {α : Type} : List (Nat × α) → Bool
  | [] => true
  | (k, _) :: rest => rest.all (fun c => decide (k < c.1)) && sparseRising rest

/-! ## Guest physical memory (20_memory.md R64) -/

/-- The byte at an address. -/
def Memory.read (m : Memory) (a : Nat) : Byte := (sparseGet m a).getD Config.memoryDefault

/-- The memory with one byte stored; storing what an unlisted address reads as removes the entry. -/
def Memory.write (m : Memory) (a : Nat) (v : Byte) : Memory :=
  if v = Config.memoryDefault then sparseErase m a else sparsePut m a v

/-- The canonical form: addresses strictly rising and within 32 bits, no entry equal to the default. -/
def Memory.wf (m : Memory) : Bool :=
  sparseRising m && m.all (fun c => decide (c.1 < 2 ^ 32) && c.2 != Config.memoryDefault)

/-- Where byte `a` of a DMA span lies: itself inside the 32-bit space, the platform's answer beyond it (R86, U9;
log 5). -/
def spanAddress (a : Nat) : Option Nat :=
  if a < 2 ^ 32 then some a else (Config.platformAddress a).map BitVec.toNat

/-- `DmaWrite(a, n, bytes)`: the bytes in ascending address order (R64). -/
def Memory.writeSpan : Memory → Nat → List Byte → Memory
  | m, _, [] => m
  | m, a, b :: bs =>
    match spanAddress a with
    | some x => (m.write x b).writeSpan (a + 1) bs
    | none => m.writeSpan (a + 1) bs

/-- Byte `a` of a DMA read, with the count that indexes the free value of a byte that has no memory (U9). -/
def Memory.readSpanByte (m : Memory) (count a : Nat) : Byte :=
  match spanAddress a with
  | some x => m.read x
  | none => Config.beyondTopByte count a

/-- `DmaRead(a, n)`: `n` bytes in ascending address order (R64). -/
def Memory.readSpan (m : Memory) (count : Nat) : Nat → Nat → List Byte
  | _, 0 => []
  | a, n + 1 => m.readSpanByte count a :: m.readSpan count (a + 1) n

/-! ## The sector buffer (10_state.md R35) -/

/-- The byte at a buffer position; a position nothing has written since reset holds 0 (log 2). -/
def bufferByte (buf : List Byte) (p : Nat) : Byte := buf.getD p 0

/-- The `n` bytes from position `p`. -/
def bufferSlice (buf : List Byte) (p n : Nat) : List Byte := (List.range n).map fun i => bufferByte buf (p + i)

/-- The buffer with bytes stored from position `p`, within its capacity of `cap` bytes. -/
def bufferPut (cap : Nat) (buf : List Byte) (p : Nat) (bs : List Byte) : List Byte :=
  (buf.take p ++ List.replicate (p - buf.length) 0 ++ bs ++ buf.drop (p + bs.length)).take cap

end Sys2Proof.Machine
end

