-- ==== Sys2Proof/Machine/Operands.lean ====
section
/-!
DEFINITION. Operand assembly: block addresses and counts from the task file (30_encoding.md R106, R107;
41_ata_commands.md R173, R175), the identify block, and the payloads and requests of the packet commands.
-/

namespace Sys2Proof.Machine

/-! ## The task file as an address -/

/-- The 28-bit LBA `head[3:0] : cylinder : sectorNumber` (30_encoding.md R106). -/
def lbaAddress (d : Drive) : BitVec 28 := headNumber d.head ++ d.cylinder ++ d.sectorNumber

/-- `(cylinder * P_HEADS + head[3:0]) * P_SPT + (sectorNumber - 1)` (30_encoding.md R106); only used where
`sectorNumber` is not 0 (41_ata_commands.md R175). -/
def chsAddress (c : DriveConfig) (d : Drive) : Nat :=
  (d.cylinder.toNat * c.heads + (headNumber d.head).toNat) * c.spt + (d.sectorNumber.toNat - 1)

/-- `makeLogical(d)` (30_encoding.md R106). -/
def makeLogical (c : DriveConfig) (d : Drive) : Nat :=
  if isLba d.head then (lbaAddress d).toNat else chsAddress c d

/-- `count(d)`: 0 stands for 256 (30_encoding.md R107). -/
def sectorCountOf (d : Drive) : Nat := if d.sectorCount = 0 then 256 else d.sectorCount.toNat

/-- `AddressOk(d)` (41_ata_commands.md R175). -/
def addressOk (c : DriveConfig) (d : Drive) : Bool :=
  if isLba d.head then c.lbaCapable else d.sectorNumber != 0

/-- The register file with the task file advanced by one block, `incAddress(d)` (41_ata_commands.md R173). -/
def incAddress (c : DriveConfig) (d : Drive) : Drive :=
  if isLba d.head then
    let a := lbaAddress d + 1
    { d with
      sectorNumber := a.extractLsb' 0 8
      cylinder := a.extractLsb' 8 16
      head := withHeadNumber d.head (a.extractLsb' 24 4) }
  else if c.spt < d.sectorNumber.toNat + 1 then
    if c.heads ≤ (headNumber d.head).toNat + 1 then
      { d with sectorNumber := 1, head := withHeadNumber d.head 0, cylinder := d.cylinder + 1 }
    else
      { d with sectorNumber := 1, head := withHeadNumber d.head (headNumber d.head + 1) }
  else { d with sectorNumber := d.sectorNumber + 1 }

/-! ## Payloads -/

/-- The 512 bytes of the identify block, each word little-endian (20_memory.md R70; 41_ata_commands.md R177). -/
def identifyBytes (c : DriveConfig) : List Byte :=
  (List.range 256).flatMap fun i => [byteOf (c.identifyWord i) 0, byteOf (c.identifyWord i) 1]

/-- The 18-byte sense payload (30_encoding.md R120). -/
def sensePayload (cd : CdRom) : List Byte :=
  [0x70, 0, 0#4 ++ cd.senseKey, 0, 0, 0, 0, 0x0A, 0, 0, 0, 0, cd.asc, cd.ascq, 0, 0, 0, 0]

/-- The 20 bytes of the default table of contents of a medium of `capacity` blocks (42_atapi_packet.md R209). Its last
field is 32 bits: what it holds for a capacity that does not fit is not stated, and is a free value (DESIGN CHOICE, log 23). -/
def singleTrackToc (capacity : Nat) : List Byte :=
  let c : Word := if capacity < 2 ^ 32 then BitVec.ofNat 32 capacity else Config.tocCapacity capacity
  [0x00, 0x12, 0x01, 0x01, 0x00, 0x14, 0x01, 0x00, 0, 0, 0, 0, 0x00, 0x14, 0xAA, 0x00] ++
    [byteOf c 3, byteOf c 2, byteOf c 1, byteOf c 0]

/-- `P_TOC[d](msf, format, track)` on a medium of `capacity` blocks (42_atapi_packet.md R209). -/
def tocPayload (t : TocParam) (capacity : Nat) (msf : Bool) (format : BitVec 4) (track : Byte) :
    Option (List Byte) :=
  match t with
  | .singleTrack =>
    if format = 0 ∧ msf = false ∧ track.toNat ≤ 1 then some (singleTrackToc capacity) else none
  | .table rows => rows.lookup (msf, format, track)

/-! ## The READ_CD sub-command (30_encoding.md R119; 42_atapi_packet.md R212) -/

/-- What a READ_CD asks for. -/
inductive ReadCdRequest where
  | stub
  | noData
  | sectors (size : Nat)
  | invalid
  deriving DecidableEq, Repr

/-- The sub-command byte and the sub-channel field, in the order R212 tests them. -/
def readCdRequest (sub : Byte) (subch : BitVec 3) : ReadCdRequest :=
  if subch ≠ 0 then .stub
  else if sub &&& 0xF8 = 0x00 then .noData
  else if sub &&& 0xF8 = 0x10 then .sectors 2048
  else if sub &&& 0xF8 = 0xF8 then .sectors 2352
  else if sub.getLsbD 3 then .stub
  else .invalid

/-! ## The data of an access -/

/-- The low `n` bytes of a datum, zero-extended: what a read of `n` bytes returns (20_memory.md R62). -/
def lowBytes (n : Nat) (v : Word) : Word := (v.setWidth (8 * n)).setWidth 32

/-- The data bytes of a write, the lowest first. -/
def writeBytesOf : Access → List Byte
  | .r8 | .r16 | .r32 => []
  | .w8 v => [v]
  | .w16 v => [byteOf v 0, byteOf v 1]
  | .w32 v => [byteOf v 0, byteOf v 1, byteOf v 2, byteOf v 3]

/-- Bytes as a datum, byte `i` in bits `8i+7 : 8i` (43_busmaster_dma.md R240). -/
def datumOf (bytes : List Byte) : Word :=
  le32 (bytes.getD 0 0) (bytes.getD 1 0) (bytes.getD 2 0) (bytes.getD 3 0)

end Sys2Proof.Machine
end

