-- ==== Sys2Proof/Machine/Ops.lean ====
section
/-!
DEFINITION. The named operations over the state: the selected drive, interface events, the interrupt logic, the
error classes (the one shared operation for each `raise`), the device calls, the mailbox, the data a read returns,
and the two tests every host access starts with.
-/

namespace Sys2Proof.Machine

/-- The outcome of a meaning. -/
abbrev Result := Host.Outcome State Fault Refusal

/-- Go on with the next state, stop with a fault or a refusal. -/
def andThen (r : Result) (k : State → Result) : Result :=
  match r with
  | .next s => k s
  | .fault f => .fault f
  | .refused x => .refused x

/-! ## The selected drive (10_state.md R21; 00_scope.md R12 `sel()`, `cfg(d)`) -/

/-- `sel()`: the register file of the selected drive. -/
def State.sel (s : State) : Drive := s.drives.get s.selectedDrive

/-- The CD-ROM sub-state of the selected drive. -/
def State.selCd (s : State) : CdRom := s.cds.get s.selectedDrive

/-- The parameters of the selected drive. -/
def State.selCfg (s : State) : DriveConfig := s.cfg.drives.get s.selectedDrive

/-- The backing device of the selected drive. -/
def State.selDevice (s : State) : Device := s.devices.get s.selectedDrive

/-- The state with the selected drive's register file replaced. -/
def State.withDrive (s : State) (x : Drive) : State := { s with drives := s.drives.set s.selectedDrive x }

/-- The state with the selected drive's CD-ROM sub-state replaced. -/
def State.withCd (s : State) (x : CdRom) : State := { s with cds := s.cds.set s.selectedDrive x }

/-- The state with the selected drive's device replaced. -/
def State.withDevice (s : State) (x : Device) : State := { s with devices := s.devices.set s.selectedDrive x }

/-- The state with the selected drive's lock bit replaced. -/
def State.withLock (s : State) (b : Bool) : State := { s with locks := s.locks.set s.selectedDrive b }

/-- The state with the bus-master registers replaced. -/
def State.withBm (s : State) (x : BusMaster) : State := { s with bm := x }

/-- The state with the walker's registers replaced. -/
def State.withWalk (s : State) (x : Walk) : State := { s with walk := x }

/-- The state with the mailbox replaced. -/
def State.withSlot (s : State) (x : Mailbox) : State := { s with slot := x }

/-- The state with one more interface event. -/
def State.emit (s : State) (e : Event) : State := { s with events := e :: s.events }

/-- The state with bytes stored in the selected drive's buffer from position `p`. -/
def State.putBuffer (s : State) (p : Nat) (bs : List Byte) : State :=
  s.withDrive { s.sel with buffer := bufferPut s.cfg.maxBlock s.sel.buffer p bs }

/-! ## The data of a read (20_memory.md R62) -/

/-- A read returns a datum. -/
def State.returns (s : State) (v : Word) : State := { s with rdata := v }

/-- A read of `n` bytes returns unspecified data: a free value (93_implementation_defined.md U1, U2; log 6). -/
def State.returnsFree (s : State) (n : Nat) : State :=
  { s with rdata := lowBytes n (Config.freeRead s.freeCount), freeCount := s.freeCount + 1 }

/-! ## The interrupt logic (60_exceptions.md R280, R281) -/

/-- The two gates of a raise: nIEN of the drive that raises, and the blocked bit (R280 a, b). -/
def interruptGated (s : State) : Bool :=
  interruptDisabled s.sel.outputControl || isBlocked s.cfg.iblkMask s.bm.status

/-- `raiseInterrupt(d)` for the selected drive: a gated raise leaves no trace (R280). -/
def raiseInterrupt (s : State) : State :=
  if interruptGated s then s
  else { s with irqPending := true, irqLine := true, events := .irqRaise :: s.events }

/-- `cancelInterrupt()`: unconditional (R281). -/
def cancelInterrupt (s : State) : State :=
  { s with irqPending := false, irqLine := false, events := .irqCancel :: s.events }

/-! ## The device calls (20_memory.md R65) -/

/-- One call to the selected drive's device, as an event at the interface. -/
def deviceCall (c : DeviceCall) (s : State) : State := s.emit (.device s.selectedDrive c)

/-- `acquire()`: takes the device lock (10_state.md R44). -/
def deviceAcquire (s : State) : State := deviceCall .acquire (s.withLock true)

/-- `release()`: gives the device lock back. -/
def deviceRelease (s : State) : State := deviceCall .release (s.withLock false)

/-- `seek(lba)`: sets the sequential position. -/
def deviceSeek (lba : Nat) (s : State) : State :=
  deviceCall (.seek lba) (s.withDevice { s.selDevice with position := lba })

/-- `setMode(size)`: selects the block size of an optical device. -/
def deviceSetMode (n : Nat) (s : State) : State :=
  deviceCall (.setMode n) (s.withDevice { s.selDevice with blockSize := n })

/-- `flush()`. -/
def deviceFlush (s : State) : State := deviceCall .flush s

/-- The `n` bytes of a block: the listed ones where the state lists a block of that size, else the oracle's
(93_implementation_defined.md U10; log 7). -/
def blockContent (d : DriveId) (x : Device) (lba n : Nat) : List Byte :=
  match sparseGet x.blocks lba with
  | some bs => if bs.length = n then bs else (List.range n).map (Config.mediumByte d n lba)
  | none => (List.range n).map (Config.mediumByte d n lba)

/-- Whether the next block call answers SHORT. -/
def nextIsShort (x : Device) : Bool := x.shorts.headD false

/-- `readBlock(n)`: the block at the position, which advances, or SHORT (`none`). -/
def deviceReadBlock (n : Nat) (s : State) : State × Option (List Byte) :=
  let x := s.selDevice
  if nextIsShort x then
    (deviceCall (.readBlock n) (s.withDevice { x with shorts := x.shorts.tail }), none)
  else
    (deviceCall (.readBlock n) (s.withDevice { x with shorts := x.shorts.tail, position := x.position + 1 }),
      some (blockContent s.selectedDrive x x.position n))

/-- `writeBlock(bytes)`: stores one block at the position, which advances; `false` for SHORT. -/
def deviceWriteBlock (bs : List Byte) (s : State) : State × Bool :=
  let x := s.selDevice
  if nextIsShort x then
    (deviceCall (.writeBlock bs.length) (s.withDevice { x with shorts := x.shorts.tail }), false)
  else
    (deviceCall (.writeBlock bs.length)
      (s.withDevice { x with
        shorts := x.shorts.tail
        position := x.position + 1
        blocks := sparsePut x.blocks x.position bs }), true)

/-- `acquire(); seek(lba); readBlock(n); release()`. -/
def readBlockAt (lba n : Nat) (s : State) : State × Option (List Byte) :=
  let r := deviceReadBlock n (deviceSeek lba (deviceAcquire s))
  (deviceRelease r.1, r.2)

/-- `acquire(); seek(lba); writeBlock(bytes); release()`. -/
def writeBlockAt (lba : Nat) (bs : List Byte) (s : State) : State × Bool :=
  let r := deviceWriteBlock bs (deviceSeek lba (deviceAcquire s))
  (deviceRelease r.1, r.2)

/-! ## The error classes (60_exceptions.md R270 to R274) -/

/-- The error classes of R270's table. -/
inductive ErrorClass where
  | abort
  | atapi (key : BitVec 4) (asc : Byte)
  | dma (w : Walker)
  | fatal (r : FatalReason)
  | access
  | absent
  deriving DecidableEq, Repr

/-- The error completion of a packet read's cursor or of the DMA cursor at the unit the walk reached
(43_busmaster_dma.md R252). -/
def keepCursor (w : Walker) (s : State) : State :=
  if s.sel.command = 0xA0 then
    s.withCd { s.selCd with nextLba := w.lba, remainingSectors := BitVec.ofNat 32 w.units }
  else s.withDrive { s.sel with dmaLbaStart := w.lba, dmaLbaCount := w.units }

/-- `raise`: what each class writes (60_exceptions.md R270's table; R271, R272, R273 with 43_busmaster_dma.md
R252, R274; 40_register_access.md R156; 41_ata_commands.md R189). There is no trap entry: nothing is saved and no
control is transferred (R286); the acknowledgement is `cancelInterrupt` (R287). -/
def raiseError (c : ErrorClass) (s : State) : State :=
  match c with
  | .abort =>
    raiseInterrupt (s.withDrive
      { s.sel with status := statusError, error := errorAbort, state := .idle, sectorPos := 0 })
  | .atapi key asc =>
    raiseInterrupt ((s.withCd { s.selCd with senseKey := key, asc := asc, ascq := 0x00 }).withDrive
      { s.sel with
        error := errorOfKey key
        status := statusError
        sectorCount := reasonComplete
        state := .idle
        sectorPos := 0 })
  | .dma w =>
    let s1 := deviceRelease s
    let s2 := keepCursor w (s1.withBm { s1.bm with status := withDmaError s1.bm.status })
    (s2.withDrive { s2.sel with status := statusReady, state := .idle }).withWalk .idle
  | .fatal r => { s with fault := some r }
  | .access => s.withDrive { s.sel with status := withError s.sel.status, error := errorAbort }
  | .absent => s.withDrive { s.sel with status := statusAbsent, error := errorAbort }

/-! ## Unit load and store (41_ata_commands.md R174) -/

/-- How a shared procedure that may abort ends. -/
inductive Attempt where
  | done (s : State)
  | aborted (s : State)
  deriving DecidableEq, Repr

/-- The state in which an attempt ended. -/
def Attempt.state : Attempt → State
  | .done s => s
  | .aborted s => s

/-- Go on after an attempt that did not abort. -/
def Attempt.andThen (a : Attempt) (k : State → State) : State :=
  match a with
  | .done s => k s
  | .aborted s => s

/-- The task file addresses a block of the medium: `AddressOk` and the range test (R174). -/
def unitAddressable (s : State) : Bool :=
  addressOk s.selCfg s.sel && decide (makeLogical s.selCfg s.sel < s.selCfg.capacity)

/-- `LoadUnit(d)` (R174). -/
def loadUnit (s : State) : Attempt :=
  if unitAddressable s then
    match readBlockAt (makeLogical s.selCfg s.sel) 512 s with
    | (s1, some bs) =>
      let s2 := s1.putBuffer 0 bs
      .done (s2.withDrive { s2.sel with sectorPos := 0, unitSize := 512 })
    | (s1, none) => .aborted (raiseError .abort s1)
  else .aborted (raiseError .abort s)

/-- `StoreUnit(d)` (R174). -/
def storeUnit (s : State) : Attempt :=
  if unitAddressable s then
    match writeBlockAt (makeLogical s.selCfg s.sel) (bufferSlice s.sel.buffer 0 512) s with
    | (s1, true) => .done s1
    | (s1, false) => .aborted (raiseError .abort s1)
  else .aborted (raiseError .abort s)

/-! ## The mailbox (10_state.md R41; 30_encoding.md R121) -/

/-- A deferred operation is outstanding: the slot is not IDLE (R41). -/
def slotBusy (s : State) : Bool := s.slot.op != .idle

/-- The drive shows BSY and the descriptor is in the slot: one hand-off (41_ata_commands.md R171,
43_busmaster_dma.md R247). -/
def pushSlot (m : Mailbox) (s : State) : State :=
  (s.withDrive { s.sel with status := statusBusy }).withSlot m

/-- `slot.op <- IDLE`. -/
def freeSlot (s : State) : State := s.withSlot { s.slot with op := .idle }

/-! ## The tests every access starts with (40_register_access.md R130) -/

/-- Test (1): a faulted block has no step. -/
def hostAccess (s : State) (r : Result) : Result :=
  match s.fault with
  | some reason => .fault (.blockFaulted reason)
  | none => r

/-- Tests (1) and (4): a write to CMD or CTL while a deferred operation is outstanding is dropped, with no effect
at all (R155; 70_reset_and_hazards.md R321). -/
def hostWrite (s : State) (r : Result) : Result :=
  hostAccess s (if slotBusy s then .next s else r)

end Sys2Proof.Machine
end

