-- ==== Sys2Proof/Machine/Walker.lean ====
section
/-!
DEFINITION. The PRD walker and the kick (43_busmaster_dma.md R247 to R252).
-/

namespace Sys2Proof.Machine

/-! ## Set-up -/

/-- The direction bit agrees with the drive's command: 0 for WRITE_DMA, 1 for READ_DMA and the packet reads
(R249). -/
def directionAgrees (s : State) : Bool := isToMemory s.bm.command == (s.sel.command != 0xCA)

/-- The walker's registers at set-up (R248). R248 gives `w.addr` no value: the 0 it holds until the first descriptor
overwrites it is the model's choice, and nothing reads it before (DESIGN CHOICE, log 24). -/
def newWalker (s : State) : Walker :=
  let isPacket := s.sel.command = 0xA0
  { p := s.bm.prdPtr &&& 0xFFFFFFFC
    addr := 0
    cnt := 0
    last := false
    pos := 0
    units := if isPacket then s.selCd.remainingSectors.toNat else s.sel.dmaLbaCount
    lba := if isPacket then s.selCd.nextLba else s.sel.dmaLbaStart
    toMem := isToMemory s.bm.command
    unit := s.sel.unitSize
    failed := false }

/-- Set-up, the first thing a walk does: the lock is taken for the whole walk (R248). -/
def walkSetup (s : State) : State :=
  (deviceSeek (newWalker s).lba.toNat (deviceAcquire s)).withWalk (.running (newWalker s))

/-! ## The walk (R250), one step for each descriptor fetch, chunk and exit (20_memory.md R80) -/

/-- The length of a descriptor's span: a COUNT of 0 means 65536 (30_encoding.md R114). -/
def spanLength (count : Half) : Nat := if count = 0 then 65536 else count.toNat

/-- The walker takes a descriptor's fields. -/
def takeDescriptor (w : Walker) (address : Word) (count : Half) (eot : Bool) (s : State) : State :=
  s.withWalk (.running { w with addr := address, cnt := spanLength count, last := eot })

/-- The walker is about to fetch a descriptor. -/
def awaitsDescriptor (w : Walker) : Bool := !w.failed && w.units != 0 && w.cnt == 0 && !w.last

/-- `DmaRead(addr, n)`: the bytes and the event (20_memory.md R64). -/
def dmaRead (addr : Word) (n : Nat) (s : State) : State × List Byte :=
  ({ s.emit (.dmaRead addr n) with freeCount := s.freeCount + 1 }, s.mem.readSpan s.freeCount addr.toNat n)

/-- `DmaWrite(addr, n, bytes)` (20_memory.md R64). -/
def dmaWrite (addr : Word) (bs : List Byte) (s : State) : State :=
  { s.emit (.dmaWrite addr bs.length) with mem := s.mem.writeSpan addr.toNat bs }

/-- One descriptor fetch: 8 bytes at `w.p` (R250; 20_memory.md R84). -/
def fetchDescriptor (w : Walker) (s : State) : State :=
  let r := dmaRead w.p 8 s
  let e := r.2
  takeDescriptor w (le32 (e.getD 0 0) (e.getD 1 0) (e.getD 2 0) (e.getD 3 0)) (le16 (e.getD 4 0) (e.getD 5 0))
    ((e.getD 7 0).getLsbD 7) r.1

/-- The counters after a chunk of `n` bytes; at a unit's end the next unit begins, and at a descriptor's end,
while units are left, `w.p` moves on (R250; 20_memory.md R86). -/
def advanceWalker (w : Walker) (n : Nat) : Walker :=
  let unitEnds := w.pos + n = w.unit
  let units := if unitEnds then w.units - 1 else w.units
  { w with
    addr := w.addr + BitVec.ofNat 32 n
    cnt := w.cnt - n
    pos := if unitEnds then 0 else w.pos + n
    units := units
    lba := if unitEnds then w.lba + 1 else w.lba
    p := if w.cnt - n = 0 ∧ units ≠ 0 then w.p + 8 else w.p }

/-- A device call of the chunk answered SHORT: the error exit is the next step. -/
def failWalker (w : Walker) (s : State) : State := s.withWalk (.running { w with failed := true })

/-- One chunk of `n` bytes from the buffer to memory (R250). -/
def sendChunk (w : Walker) (n : Nat) (s : State) : State :=
  (dmaWrite w.addr (bufferSlice s.sel.buffer w.pos n) s).withWalk (.running (advanceWalker w n))

/-- One chunk device to memory: the unit is read when its first byte is needed (R250). -/
def chunkToMemory (w : Walker) (n : Nat) (s : State) : State :=
  if w.pos = 0 then
    match deviceReadBlock w.unit s with
    | (s1, some bs) => sendChunk w n (s1.putBuffer 0 bs)
    | (s1, none) => failWalker w s1
  else sendChunk w n s

/-- One chunk memory to device: the unit is written when its last byte has arrived (R250). -/
def chunkFromMemory (w : Walker) (n : Nat) (s : State) : State :=
  let r := dmaRead w.addr n s
  let s1 := r.1.putBuffer w.pos r.2
  if w.pos + n = w.unit then
    match deviceWriteBlock (bufferSlice s1.sel.buffer 0 w.unit) s1 with
    | (s2, true) => s2.withWalk (.running (advanceWalker w n))
    | (s2, false) => failWalker w s2
  else s1.withWalk (.running (advanceWalker w n))

/-- One chunk: `min(w.cnt, unit - w.pos)` bytes (R250). -/
def moveChunk (w : Walker) (s : State) : State :=
  let n := min w.cnt (w.unit - w.pos)
  if w.toMem then chunkToMemory w n s else chunkFromMemory w n s

/-- The cursor after a whole transfer (R251). -/
def finishCursor (w : Walker) (s : State) : State :=
  if s.sel.command = 0xA0 then
    (s.withCd { s.selCd with nextLba := w.lba, remainingSectors := 0, remainingBytes := 0 }).withDrive
      { s.sel with sectorCount := reasonComplete }
  else s.withDrive { s.sel with dmaLbaStart := w.lba, dmaLbaCount := 0 }

/-- `DmaDone(d)`, the successful exit (R251). -/
def dmaDone (w : Walker) (s : State) : State :=
  let s1 := deviceRelease s
  let s2 := if w.last ∧ w.cnt = 0 then s1.withBm { s1.bm with status := withoutActive s1.bm.status } else s1
  let s3 := finishCursor w s2
  raiseInterrupt
    ((s3.withDrive { s3.sel with error := errorNone, status := statusReady, state := .idle }).withWalk .idle)

/-- One step of a walk: an exit, a descriptor fetch or a chunk (R250; 20_memory.md R80). -/
def walkStep (w : Walker) (s : State) : State :=
  if w.failed then raiseError (.dma w) s
  else if w.units = 0 then dmaDone w s
  else if w.cnt = 0 then
    if w.last then raiseError (.dma w) s else fetchDescriptor w s
  else moveChunk w s

/-- At most `n` steps of the walk that is running. -/
def runWalk : Nat → State → State
  | 0, s => s
  | n + 1, s =>
    match s.walk with
    | .running w => runWalk n (walkStep w s)
    | .idle => s
    | .pending => s

/-- Enough steps for a walk: every descriptor holds at least one byte and every chunk moves at least one
(43_busmaster_dma.md R255 e; log 19). -/
def walkFuel (w : Walker) : Nat := 2 * (w.units * w.unit) + 3

/-- A whole walk inside one step (R247, `P_DEFER` false). -/
def wholeWalk (s : State) : State := runWalk (walkFuel (newWalker s)) (walkSetup s)

/-! ## The kick (R247) -/

/-- The three events at which the kick is evaluated (R247). With `P_DEFER` true a command is executed by the
worker only (41_ata_commands.md R171). -/
inductive KickSite where
  | command
  | startWrite (v : Byte)
  | packetWord
  deriving DecidableEq, Repr

/-- The kick condition, a level (R247). -/
def kickCondition (s : State) : Bool := s.sel.state == .dmaActive && isStart s.bm.command

/-- Go on where the direction agrees; a walk against the command's direction is refused (R249, U3; log 13). -/
def ifDirectionAgrees (s : State) (next : State) : Result :=
  if directionAgrees s then .next next else .refused .directionMismatch

/-- The kick (R247): the walk inside the access; or the worker's next steps; or the mailbox, when it is free. -/
def kick (site : KickSite) (s : State) : Result :=
  if !kickCondition s then .next s
  else if !s.cfg.defer then ifDirectionAgrees s (wholeWalk s)
  else
    match site with
    | .command =>
      ifDirectionAgrees s ((s.withDrive { s.sel with status := statusBusy }).withWalk .pending)
    | .startWrite v =>
      if slotBusy s then .next s
      else
        ifDirectionAgrees s
          (pushSlot
            { op := .write, reg := .bm, port := s.cfg.channel.base, data := v.setWidth 32, size := 1 } s)
    | .packetWord =>
      if slotBusy s then .next s
      else
        ifDirectionAgrees s
          (pushSlot
            { op := .write
              reg := .cmd
              port := 0
              data := (le16 (bufferByte s.sel.buffer 10) (bufferByte s.sel.buffer 11)).setWidth 32
              size := 2 } s)

end Sys2Proof.Machine
end

