-- ==== Sys2Proof/Machine/AtaCommands.lean ====
section
/-!
DEFINITION. The ATA commands (41_ata_commands.md). The meaning of a format ATA instruction is its byte written to
the COMMAND register: `IOW8 COMMAND, v` with the dispatcher of R170 (log 14).
-/

namespace Sys2Proof.Machine

/-! ## The dispatcher (R170 to R172, R188, R189) -/

/-- The byte is accepted: `d.command` holds it and any open data phase is abandoned (R170). -/
def acceptCommand (v : Byte) (s : State) : State :=
  s.withDrive { s.sel with command := v, sectorPos := 0, drqPos := 0 }

/-- The deferral of a command: BSY and the descriptor `{WRITE, CMD, 7, v, 1}` (R171). -/
def deferCommand (v : Byte) (s : State) : State :=
  pushSlot { op := .write, reg := .cmd, port := 7, data := v.setWidth 32, size := 1 } s

/-- The dispatcher of R170 for a known opcode: the uninstalled drive, the acceptance, the protocol test, the
deferral, else `Exec`. -/
def dispatchCommand (v : Byte) (protocols : List Protocol) (deferrable : Bool) (run : State → Result)
    (s : State) : Result :=
  hostWrite s
    (if !s.selCfg.installed then .next (raiseError .absent s)
     else
       let s1 := acceptCommand v s
       if !protocols.contains s1.selCfg.protocol then .next (raiseError .abort s1)
       else if s1.cfg.defer && deferrable then .next (deferCommand v s1)
       else run s1)

/-! ## Bodies: `Exec(d, v)` -/

/-- A completion without data: `d.error <- 0x00; d.status <- 0x40; d.state <- IDLE; raiseInterrupt(d)` (R184 to
R187). -/
def completeCommand (s : State) : State :=
  raiseInterrupt (s.withDrive { s.sel with error := errorNone, status := statusReady, state := .idle })

/-- The identify block into the buffer, `PIO_READ` armed, one interrupt (R177, R178). -/
def identifyBody (s : State) : State :=
  let s1 := s.putBuffer 0 (identifyBytes s.selCfg)
  raiseInterrupt
    (s1.withDrive
      { s1.sel with sectorPos := 0, unitSize := 512, error := errorNone, status := statusData, state := .pioRead })

/-- `Exec` of READ_SECTOR (R179). -/
def readSectorBody (s : State) : State :=
  (loadUnit s).andThen fun s1 =>
    raiseInterrupt (s1.withDrive { s1.sel with error := errorNone, status := statusData, state := .pioRead })

/-- `Exec` of WRITE_SECTOR (R180). -/
def writeSectorBody (s : State) : State :=
  if unitAddressable s then
    s.withDrive
      { s.sel with sectorPos := 0, unitSize := 512, error := errorNone, status := statusData, state := .pioWrite }
  else raiseError .abort s

/-- The whole range of a DMA command lies on the medium (R181). -/
def rangeAddressable (s : State) : Bool :=
  addressOk s.selCfg s.sel &&
    decide (makeLogical s.selCfg s.sel + sectorCountOf s.sel ≤ s.selCfg.capacity)

/-- The state a DMA command arms, before the kick is evaluated (R181). -/
def armDma (s : State) : State :=
  let lba := makeLogical s.selCfg s.sel
  let s1 := s.withDrive
    { s.sel with
      dmaLbaStart := BitVec.ofNat 32 lba
      dmaLbaCount := sectorCountOf s.sel
      unitSize := 512
      sectorPos := 0
      error := errorNone
      status := statusData
      state := .dmaActive }
  deviceRelease (deviceSeek lba (deviceAcquire s1))

/-- `Exec` of READ_DMA and WRITE_DMA (R181, R182). -/
def dmaBody (s : State) : Result :=
  if rangeAddressable s then kick .command (armDma s) else .next (raiseError .abort s)

/-- PACKET (R183): the drive waits for twelve bytes, no interrupt. -/
def packetBody (s : State) : State :=
  let s1 := s.withCd { s.selCd with dma := s.sel.feature.getLsbD 0 }
  s1.withDrive
    { s1.sel with
      sectorCount := reasonPacket
      error := errorNone
      sectorPos := 0
      unitSize := 12
      status := statusData
      state := .packetReceive }

/-- SET_FEATURES (R184): the sub-code is accepted with no effect, or the command is aborted. -/
def setFeaturesBody (s : State) : State :=
  if s.cfg.features.contains s.sel.feature then completeCommand s else raiseError .abort s

/-- FLUSH_CACHE (R185). -/
def flushCacheBody (s : State) : State :=
  completeCommand (deviceRelease (deviceFlush (deviceAcquire s)))

/-! ## Meanings -/

/-- READ_SECTOR, `0x20` (R179). -/
def execReadSector (s : State) : Result :=
  dispatchCommand 0x20 [.ata] true (fun s1 => .next (readSectorBody s1)) s

/-- WRITE_SECTOR, `0x30` (R180). -/
def execWriteSector (s : State) : Result :=
  dispatchCommand 0x30 [.ata] true (fun s1 => .next (writeSectorBody s1)) s

/-- PACKET, `0xA0` (R183). -/
def execPacket (s : State) : Result :=
  dispatchCommand 0xA0 [.atapi] false (fun s1 => .next (packetBody s1)) s

/-- IDENTIFY_PACKET, `0xA1` (R178). -/
def execIdentifyPacket (s : State) : Result :=
  dispatchCommand 0xA1 [.atapi] false (fun s1 => .next (identifyBody s1)) s

/-- READ_DMA, `0xC8` (R181). -/
def execReadDma (s : State) : Result := dispatchCommand 0xC8 [.ata] true dmaBody s

/-- WRITE_DMA, `0xCA` (R182). -/
def execWriteDma (s : State) : Result := dispatchCommand 0xCA [.ata] true dmaBody s

/-- STANDBY_IMMEDIATE, `0xE0` (R186, R192). -/
def execStandbyImmediate (s : State) : Result :=
  dispatchCommand 0xE0 [.ata, .atapi] false (fun s1 => .next (completeCommand s1)) s

/-- SLEEP, `0xE6` (R187, R192). -/
def execSleep (s : State) : Result :=
  dispatchCommand 0xE6 [.ata, .atapi] false (fun s1 => .next (completeCommand s1)) s

/-- FLUSH_CACHE, `0xE7` (R185). -/
def execFlushCache (s : State) : Result :=
  dispatchCommand 0xE7 [.ata, .atapi] false (fun s1 => .next (flushCacheBody s1)) s

/-- IDENTIFY, `0xEC` (R177). -/
def execIdentify (s : State) : Result :=
  dispatchCommand 0xEC [.ata] false (fun s1 => .next (identifyBody s1)) s

/-- SET_FEATURES, `0xEF` (R184). -/
def execSetFeatures (s : State) : Result :=
  dispatchCommand 0xEF [.ata, .atapi] false (fun s1 => .next (setFeaturesBody s1)) s

/-- A byte that is none of the eleven (R188): accepted into `d.command`, then aborted. -/
def execAtaUnknown (v : Byte) (s : State) : Result :=
  dispatchCommand v [.ata, .atapi] false (fun s1 => .next (raiseError .abort s1)) s

/-- A command byte: the meaning of the instruction it is (R149, R170). -/
def runCommandByte (v : Byte) (s : State) : Result :=
  match decodeAta v with
  | .readSector => execReadSector s
  | .writeSector => execWriteSector s
  | .packet => execPacket s
  | .identifyPacket => execIdentifyPacket s
  | .readDma => execReadDma s
  | .writeDma => execWriteDma s
  | .standbyImmediate => execStandbyImmediate s
  | .sleep => execSleep s
  | .flushCache => execFlushCache s
  | .identify => execIdentify s
  | .setFeatures => execSetFeatures s
  | _ => execAtaUnknown v s

/-- `Exec(d, v)` of a deferred command (R171; 60_exceptions.md R295): the four deferrable ones. -/
def execDeferred (v : Byte) (s : State) : Result :=
  match decodeAta v with
  | .readSector => .next (readSectorBody s)
  | .writeSector => .next (writeSectorBody s)
  | .readDma => dmaBody s
  | .writeDma => dmaBody s
  | _ => .next s

end Sys2Proof.Machine
end

