-- ==== Sys2Proof/Machine/PacketCommands.lean ====
section
/-!
DEFINITION. The ATAPI packet commands (42_atapi_packet.md). The meaning of a format PKT instruction is its twelve
bytes delivered to a drive that waits for a packet, and the dispatcher of R201 on them (log 14).
-/

namespace Sys2Proof.Machine

/-! ## Shared procedures -/

/-- `AtapiComplete(d)` (R203). -/
def atapiComplete (s : State) : State :=
  raiseInterrupt
    (s.withDrive
      { s.sel with error := errorNone, sectorCount := reasonComplete, status := statusReady, state := .idle })

/-- The odd adjustment of R214: an odd byte count in which the allocation does not fit loses one. -/
def adjustedByteCount (byteCount alloclen : Nat) : Nat :=
  if byteCount % 2 = 1 ∧ ¬alloclen ≤ byteCount then byteCount - 1 else byteCount

/-- The data-in phase is armed (R202). -/
def armSend (unit : Nat) (s : State) : State :=
  raiseInterrupt
    (s.withDrive
      { s.sel with
        sectorCount := reasonData
        error := errorNone
        sectorPos := 0
        drqPos := 0
        unitSize := unit
        status := statusData
        state := .pioRead })

/-- The byte count register, `d.byteCount` (10_state.md R29). -/
def withByteCount (n : Nat) (s : State) : State := s.withDrive { s.sel with cylinder := BitVec.ofNat 16 n }

/-- `AtapiStartSend(d, reqlen, alloclen, unit)` with the clipping of R214 (R202). -/
def atapiStartSend (reqlen alloclen unit : Nat) (s : State) : State :=
  let bc := adjustedByteCount s.sel.cylinder.toNat alloclen
  let s1 := withByteCount bc s
  if bc = 0 then raiseError (.fatal .byteCountZero) s1
  else
    let declared := min reqlen alloclen
    let s2 := withByteCount (min bc declared) s1
    let s3 := s2.withCd { s2.selCd with declared := declared, remainingBytes := declared }
    if declared = 0 then atapiComplete s3 else armSend unit s3

/-- `SendFixed(d, payload, alloclen)` (R219). -/
def sendFixed (payload : List Byte) (alloclen : Nat) (s : State) : State :=
  let unit := payload.length + payload.length % 2
  atapiStartSend payload.length alloclen unit
    (s.putBuffer 0 (payload ++ List.replicate (payload.length % 2) 0))

/-- `raise AtapiError(d, 0x5, 0x24)`: ILLEGAL_REQUEST, INVALID FIELD IN CDB (R204, R207 to R213). -/
def invalidField (s : State) : State := raiseError (.atapi 0x5 0x24) s

/-- A payload the parameter defines, or the invalid field (R207 to R210). -/
def sendIfDefined (payload : Option (List Byte)) (alloclen : Nat) (s : State) : State :=
  match payload with
  | some bs => sendFixed bs alloclen s
  | none => invalidField s

/-- `CheckReady(d)` (R218): the handler goes on only on a ready device. -/
def checkReady (s : State) (k : State → Result) : Result :=
  let s1 := deviceCall .isReady s
  if s1.selDevice.ready then k s1 else .next (raiseError (.atapi 0x2 0x3A) s1)

/-- `LoadNextCdSector(d)` (R216). -/
def loadNextCdSector (s : State) : Attempt :=
  match readBlockAt s.selCd.nextLba.toNat s.selCd.sectorSize s with
  | (s1, none) => .aborted (raiseError .abort s1)
  | (s1, some bs) =>
    let s2 := s1.putBuffer 0 bs
    let s3 := s2.withDrive { s2.sel with sectorPos := 0, unitSize := s2.selCd.sectorSize }
    .done (s3.withCd
      { s3.selCd with nextLba := s3.selCd.nextLba + 1, remainingSectors := s3.selCd.remainingSectors - 1 })

/-- The cursor `(nextLBA, remainingCount, sectorSize)` of a streamed read (R217). -/
def recordCursor (lba : Word) (len ss : Nat) (s : State) : State :=
  let s1 := deviceSetMode ss (s.withCd { s.selCd with sectorSize := ss })
  s1.withCd { s1.selCd with nextLba := lba, remainingSectors := BitVec.ofNat 32 len }

/-- The DMA branch of `StartStream`, before the kick is evaluated (R217). -/
def armStreamDma (lba : Word) (len ss : Nat) (s : State) : State :=
  let s1 := s.withCd { s.selCd with declared := len * ss, remainingBytes := len * ss }
  let s2 := s1.withDrive
    { s1.sel with
      unitSize := ss
      sectorPos := 0
      sectorCount := reasonData
      error := errorNone
      status := statusData
      state := .dmaActive }
  deviceRelease (deviceSeek lba.toNat (deviceAcquire s2))

/-- `StartStream(d, lba, len, ss)` (R217). -/
def startStream (lba : Word) (len ss : Nat) (s : State) : Result :=
  let s1 := recordCursor lba len ss s
  if s1.selCd.dma then kick .packetWord (armStreamDma lba len ss s1)
  else .next ((loadNextCdSector s1).andThen fun s2 => atapiStartSend (len * ss) (len * ss) ss s2)

/-- The length and range tests of a streamed read and the stream (R211, R212). -/
def streamRange (lba : Word) (len ss : Nat) (s : State) : Result :=
  if len = 0 then .next (atapiComplete s)
  else
    let s1 := deviceCall .getCapacity s
    if s1.selDevice.capacity < lba.toNat + len then .next (raiseError (.atapi 0x5 0x21) s1)
    else startStream lba len ss s1

/-! ## Bodies -/

/-- REQUEST_SENSE (R205). -/
def requestSenseBody (alloc : Byte) (s : State) : Result :=
  .next (sendFixed (sensePayload s.selCd) alloc.toNat s)

/-- INQUIRY (R206). -/
def inquiryBody (alloc : Byte) (s : State) : Result := .next (sendFixed s.selCfg.inquiry alloc.toNat s)

/-- MODE_SENSE_6 (R207). -/
def modeSense6Body (pc : BitVec 2) (page : BitVec 6) (alloc : Byte) (s : State) : Result :=
  .next (sendIfDefined (s.selCfg.modeSense6.lookup (pc, page)) alloc.toNat s)

/-- MODE_SENSE_10 (R208). -/
def modeSense10Body (pc : BitVec 2) (page : BitVec 6) (alloc : Half) (s : State) : Result :=
  .next (sendIfDefined (s.selCfg.modeSense10.lookup (pc, page)) alloc.toNat s)

/-- The payload of READ_TOC (R209). The default payload is computed from `getCapacity`, so that call is made where
the default defines the request; that it is not made for a request the default leaves undefined is the model's choice
(DESIGN CHOICE, log 22). -/
def tocOf (msf : Bool) (format : BitVec 4) (track : Byte) (s : State) : State × Option (List Byte) :=
  let payload := tocPayload s.selCfg.toc s.selDevice.capacity msf format track
  match s.selCfg.toc, payload with
  | .singleTrack, some _ => (deviceCall .getCapacity s, payload)
  | .singleTrack, none => (s, payload)
  | .table _, _ => (s, payload)

/-- READ_TOC (R209). -/
def readTocBody (msf : Bool) (format : BitVec 4) (track : Byte) (alloc : Half) (s : State) : Result :=
  checkReady s fun s1 =>
    let r := tocOf msf format track s1
    .next (sendIfDefined r.2 alloc.toNat r.1)

/-- READ_DVD_STRUCTURE (R210). -/
def readDvdStructureBody (address : Word) (layer format : Byte) (alloc : Half) (s : State) : Result :=
  checkReady s fun s1 =>
    .next (sendIfDefined (s1.selCfg.dvdStruct.lookup (format, layer, address)) alloc.toNat s1)

/-- READ_10 and READ_12 (R211). -/
def readBlocksBody (lba : Word) (len : Nat) (s : State) : Result :=
  checkReady s fun s1 => streamRange lba len 2048 s1

/-- A stubbed path: fatal as in the original, or an invalid field (R213). -/
def stubbedPath (s : State) : State :=
  if s.cfg.fatalStubs then raiseError (.fatal .unimplemented) s else invalidField s

/-- READ_CD (R212). -/
def readCdBody (lba : Word) (len : BitVec 24) (sub : Byte) (subch : BitVec 3) (s : State) : Result :=
  checkReady s fun s1 =>
    match readCdRequest sub subch with
    | .stub => .next (stubbedPath s1)
    | .noData => .next (atapiComplete s1)
    | .sectors ss => streamRange lba len.toNat ss s1
    | .invalid => .next (invalidField s1)

/-- An opcode that is none of the nine (R204): no readiness test. -/
def pktUnknownBody (s : State) : Result := .next (invalidField s)

/-! ## Dispatch (R201) -/

/-- The flat switch over the packet's opcode. -/
def dispatchPacket (p0 p1 p2 p3 p4 p5 p6 p7 p8 p9 p10 : Byte) (s : State) : Result :=
  match decodePacket p0 p1 p2 p3 p4 p5 p6 p7 p8 p9 p10 with
  | .requestSense alloc => requestSenseBody alloc s
  | .inquiry alloc => inquiryBody alloc s
  | .modeSense6 pc page alloc => modeSense6Body pc page alloc s
  | .modeSense10 pc page alloc => modeSense10Body pc page alloc s
  | .readToc msf format track alloc => readTocBody msf format track alloc s
  | .readDvdStructure address layer format alloc => readDvdStructureBody address layer format alloc s
  | .read10 lba len => readBlocksBody lba len.toNat s
  | .read12 lba len => readBlocksBody lba len.toNat s
  | .readCd lba len sub subch => readCdBody lba len sub subch s
  | _ => pktUnknownBody s

/-- The packet in `d.buffer[0..11]` is handed to the dispatcher (40_register_access.md R136). -/
def dispatchBuffer (s : State) : Result :=
  let b := bufferByte s.sel.buffer
  dispatchPacket (b 0) (b 1) (b 2) (b 3) (b 4) (b 5) (b 6) (b 7) (b 8) (b 9) (b 10) s

/-- A data phase of the write direction is open on the selected drive and BSY is clear
(40_register_access.md R135, R139). -/
def dataWriteOpen (s : State) : Bool :=
  (s.sel.state == .pioWrite || s.sel.state == .packetReceive) && !isBusy s.sel.status

/-- The drive waits for a packet and BSY is clear. -/
def packetOpen (s : State) : Bool := s.sel.state == .packetReceive && !isBusy s.sel.status

/-- A whole packet arrives: its bytes lie in `d.buffer[0..11]`, the cursor is back at 0 and the handler runs
(40_register_access.md R136); a drive that does not wait for a packet ignores the words (R139). The bytes of a packet
row are those `encodePacket` gives: what no field names is stored as 0, where six DATA writes store it as sent
(DESIGN CHOICE, log 26). -/
def deliverPacket (bytes : List Byte) (body : State → Result) (s : State) : Result :=
  hostWrite s
    (if packetOpen s then
      let s1 := s.putBuffer 0 bytes
      body (s1.withDrive { s1.sel with sectorPos := 0 })
     else .next s)

/-! ## Meanings -/

/-- REQUEST_SENSE (R205). -/
def execRequestSense (alloc : Byte) (s : State) : Result :=
  deliverPacket (encodePacket (.requestSense alloc)) (requestSenseBody alloc) s

/-- INQUIRY (R206). -/
def execInquiry (alloc : Byte) (s : State) : Result :=
  deliverPacket (encodePacket (.inquiry alloc)) (inquiryBody alloc) s

/-- MODE_SENSE_6 (R207). -/
def execModeSense6 (pc : BitVec 2) (page : BitVec 6) (alloc : Byte) (s : State) : Result :=
  deliverPacket (encodePacket (.modeSense6 pc page alloc)) (modeSense6Body pc page alloc) s

/-- MODE_SENSE_10 (R208). -/
def execModeSense10 (pc : BitVec 2) (page : BitVec 6) (alloc : Half) (s : State) : Result :=
  deliverPacket (encodePacket (.modeSense10 pc page alloc)) (modeSense10Body pc page alloc) s

/-- READ_TOC (R209). -/
def execReadToc (msf : Bool) (format : BitVec 4) (track : Byte) (alloc : Half) (s : State) : Result :=
  deliverPacket (encodePacket (.readToc msf format track alloc)) (readTocBody msf format track alloc) s

/-- READ_DVD_STRUCTURE (R210). -/
def execReadDvdStructure (address : Word) (layer format : Byte) (alloc : Half) (s : State) : Result :=
  deliverPacket (encodePacket (.readDvdStructure address layer format alloc))
    (readDvdStructureBody address layer format alloc) s

/-- READ_10 (R211). -/
def execRead10 (lba : Word) (len : Half) (s : State) : Result :=
  deliverPacket (encodePacket (.read10 lba len)) (readBlocksBody lba len.toNat) s

/-- READ_12 (R211). -/
def execRead12 (lba : Word) (len : Word) (s : State) : Result :=
  deliverPacket (encodePacket (.read12 lba len)) (readBlocksBody lba len.toNat) s

/-- READ_CD (R212). -/
def execReadCd (lba : Word) (len : BitVec 24) (sub : Byte) (subch : BitVec 3) (s : State) : Result :=
  deliverPacket (encodePacket (.readCd lba len sub subch)) (readCdBody lba len sub subch) s

/-- An opcode that is none of the nine (R204). -/
def execPktUnknown (op : Byte) (s : State) : Result :=
  deliverPacket (encodePacket (.pktUnknown op)) pktUnknownBody s

end Sys2Proof.Machine
end

