-- ==== Sys2Proof/Machine/RegisterAccess.lean ====
section
/-!
DEFINITION. Host accesses to the command and control windows (40_register_access.md R131 to R157).
-/

namespace Sys2Proof.Machine

/-! ## The data register -/

/-- A read phase is open on the selected drive and BSY is clear (R131, R139). -/
def dataReadOpen (s : State) : Bool := s.sel.state == .pioRead && !isBusy s.sel.status

/-- End of a one-unit data-in command: no interrupt (R132). -/
def endOneUnit (s : State) : State :=
  s.withDrive { s.sel with sectorPos := 0, status := statusReady, state := .idle }

/-- `ContinueSector(d)` (R133). -/
def continueSector (s : State) : State :=
  (loadUnit s).andThen fun s1 => raiseInterrupt (s1.withDrive { s1.sel with status := statusData })

/-- The task file advanced by one block and the count taken down by one, modulo 256 (R133, R137). -/
def nextUnit (s : State) : State :=
  let d := incAddress s.selCfg s.sel
  s.withDrive { d with sectorCount := d.sectorCount - 1 }

/-- The continue-sector load handed to the worker; its `slot.data` is a free value (R133; U6; log 3). -/
def deferContinue (s : State) : State :=
  { pushSlot { op := .read, reg := .cmd, port := 0, data := Config.freeSlotData s.freeCount, size := 2 } s with
    freeCount := s.freeCount + 1 }

/-- End of a unit of READ_SECTOR (R133). -/
def endReadUnit (s : State) : State :=
  let s1 := nextUnit (s.withDrive { s.sel with sectorPos := 0 })
  if s1.sel.sectorCount = 0 then s1.withDrive { s1.sel with status := statusReady, state := .idle }
  else if s1.cfg.defer then deferContinue s1
  else continueSector s1

/-- The data block the host was promised is drained: the next one is announced (R134). -/
def nextDataBlock (s : State) : State :=
  if s.sel.cylinder.toNat ≤ s.sel.drqPos then
    let s1 := s.withDrive { s.sel with drqPos := 0 }
    raiseInterrupt (withByteCount (min s1.sel.cylinder.toNat s1.selCd.remainingBytes) s1)
  else s

/-- At the unit's end the cursor is back at 0 (10_state.md R36: it "wraps to 0 and triggers the
next-unit logic exactly at that boundary"). -/
def wrapCursor (s : State) : State :=
  if s.sel.unitSize ≤ s.sel.sectorPos then s.withDrive { s.sel with sectorPos := 0 } else s

/-- Boundary logic of a packet command's data (R134). The completion leaves a cursor that has reached the unit's end
at 0, as R36 and R45 (a) of 10_state.md have it (log 17); the load of the next sector sets it itself. -/
def atapiBoundary (s : State) : State :=
  if s.selCd.remainingBytes = 0 then atapiComplete (wrapCursor s)
  else if s.sel.unitSize ≤ s.sel.sectorPos then (loadNextCdSector s).andThen nextDataBlock
  else nextDataBlock s

/-- What a read of one item leads to, once the cursor has moved (R131). -/
def afterDataRead (s : State) : State :=
  if s.sel.command = 0xA0 then
    let s1 := s.withDrive { s.sel with drqPos := s.sel.drqPos + 2 }
    atapiBoundary (s1.withCd { s1.selCd with remainingBytes := s1.selCd.remainingBytes - 2 })
  else if s.sel.unitSize ≤ s.sel.sectorPos then
    if s.sel.command = 0x20 then endReadUnit s else endOneUnit s
  else s

/-- The 16-bit item at a buffer position (20_memory.md R68). -/
def bufferItem (d : Drive) : Half := le16 (bufferByte d.buffer d.sectorPos) (bufferByte d.buffer (d.sectorPos + 1))

/-- `IOR16 DATA` (R131, R139). -/
def execIor16Data (s : State) : Result :=
  hostAccess s
    (if dataReadOpen s then
      let s1 := s.returns ((bufferItem s.sel).setWidth 32)
      .next (afterDataRead (s1.withDrive { s1.sel with sectorPos := s1.sel.sectorPos + 2 }))
     else .next (s.returnsFree 2))

/-- End of a unit of WRITE_SECTOR (R137). -/
def endWriteUnit (s : State) : State :=
  (storeUnit (s.withDrive { s.sel with sectorPos := 0 })).andThen fun s1 =>
    let s2 := nextUnit s1
    raiseInterrupt
      (if s2.sel.sectorCount = 0 then s2.withDrive { s2.sel with status := statusReady, state := .idle } else s2)

/-- What a write of one item leads to, once the cursor has moved (R135, R136). -/
def afterDataWrite (s : State) : Result :=
  if s.sel.unitSize ≤ s.sel.sectorPos then
    if s.sel.state = .packetReceive then dispatchBuffer (s.withDrive { s.sel with sectorPos := 0 })
    else .next (endWriteUnit s)
  else .next s

/-- `IOW16 DATA, v` (R135, R139). -/
def execIow16Data (v : Half) (s : State) : Result :=
  hostWrite s
    (if dataWriteOpen s then
      let s1 := s.putBuffer s.sel.sectorPos [byteOf v 0, byteOf v 1]
      afterDataWrite (s1.withDrive { s1.sel with sectorPos := s1.sel.sectorPos + 2 })
     else .next s)

/-! ## The task-file registers -/

/-- A byte register's read: the value and nothing else. -/
def readByte (v : Byte) (s : State) : Result := hostAccess s (.next (s.returns (v.setWidth 32)))

/-- `IOR8 ERROR` (R140). -/
def execIor8Error (s : State) : Result := readByte s.sel.error s

/-- `IOW8 FEATURE, v` (R141). -/
def execIow8Feature (v : Byte) (s : State) : Result :=
  hostWrite s (.next (s.withDrive { s.sel with feature := v }))

/-- `IOR8 SECTOR_COUNT` (R142). -/
def execIor8SectorCount (s : State) : Result := readByte s.sel.sectorCount s

/-- `IOW8 SECTOR_COUNT, v` (R142). -/
def execIow8SectorCount (v : Byte) (s : State) : Result :=
  hostWrite s (.next (s.withDrive { s.sel with sectorCount := v }))

/-- `IOR8 SECTOR_NUMBER` (R143). -/
def execIor8SectorNumber (s : State) : Result := readByte s.sel.sectorNumber s

/-- `IOW8 SECTOR_NUMBER, v` (R143). -/
def execIow8SectorNumber (v : Byte) (s : State) : Result :=
  hostWrite s (.next (s.withDrive { s.sel with sectorNumber := v }))

/-- `IOR8 CYL_LSB` (R144). -/
def execIor8CylLsb (s : State) : Result := readByte (byteOf s.sel.cylinder 0) s

/-- `IOW8 CYL_LSB, v` (R144). -/
def execIow8CylLsb (v : Byte) (s : State) : Result :=
  hostWrite s (.next (s.withDrive { s.sel with cylinder := byteOf s.sel.cylinder 1 ++ v }))

/-- `IOR8 CYL_MSB` (R145). -/
def execIor8CylMsb (s : State) : Result := readByte (byteOf s.sel.cylinder 1) s

/-- `IOW8 CYL_MSB, v` (R145). -/
def execIow8CylMsb (v : Byte) (s : State) : Result :=
  hostWrite s (.next (s.withDrive { s.sel with cylinder := v ++ byteOf s.sel.cylinder 0 }))

/-- `IOR8 DRIVE_HEAD` (R147). -/
def execIor8DriveHead (s : State) : Result := readByte s.sel.head s

/-- `IOW8 DRIVE_HEAD, v`: the selection, then the refresh of the newly selected drive (R146). -/
def execIow8DriveHead (v : Byte) (s : State) : Result :=
  let s1 := { s with selectedDrive := driveSelected v }
  let s2 := s1.withDrive { s1.sel with head := v }
  hostWrite s
    (.next
      (if s2.selCfg.installed then
        s2.withDrive { s2.sel with status := withoutError s2.sel.status, error := errorNone }
       else raiseError .absent s2))

/-- `IOR8 STATUS`: the status, and the interrupt cancelled (R148). -/
def execIor8Status (s : State) : Result :=
  hostAccess s (.next (cancelInterrupt (s.returns (s.sel.status.setWidth 32))))

/-- `IOW8 COMMAND, v`: the byte to the command dispatcher (R149). -/
def execIow8Command (v : Byte) (s : State) : Result := runCommandByte v s

/-! ## The control block -/

/-- `IOR8 STATUS2`: the status, with no side effect (R150). -/
def execIor8Status2 (s : State) : Result := readByte s.sel.status s

/-- The register file and CD-ROM sub-state of slot `d` at their reset values, `outputControl` kept, the buffer's
bytes free (R152; 93_implementation_defined.md U5; log 2). -/
def resetSlot (d : DriveId) (s : State) : State :=
  { s with
    drives := s.drives.set d
      { Drive.reset (s.cfg.drives.get d) d with
        outputControl := (s.drives.get d).outputControl
        buffer := (Config.freeBuffer s.freeCount).take s.cfg.maxBlock }
    cds := s.cds.set d CdRom.reset
    freeCount := s.freeCount + 1 }

/-- The software reset (R152; 70_reset_and_hazards.md R311). -/
def softwareReset (s : State) : State := cancelInterrupt (resetSlot .slave (resetSlot .master s))

/-- `IOW8 OUTPUT, v` (R151, R152). -/
def execIow8Output (v : Byte) (s : State) : Result :=
  let s1 := s.withDrive { s.sel with outputControl := v }
  hostWrite s (.next (if resetRequested v then softwareReset s1 else s1))

/-! ## Protocol errors of the access itself -/

/-- The width error and the invalid register: ERR and `0x04`; a write has no other effect, a read returns
unspecified data (R156, R157). -/
def accessError (a : Access) (s : State) : State :=
  if a.isWrite then raiseError .access s else (raiseError .access s).returnsFree a.size

/-- A read is performed, a write is dropped while a deferred operation is outstanding (R130, R155). -/
def hostTransaction (a : Access) (s : State) (r : Result) : Result :=
  if a.isWrite then hostWrite s r else hostAccess s r

/-- An access to a CTL offset other than 6 (R157). -/
def execCtlInvalid (_offset : Byte) (a : Access) (s : State) : Result :=
  hostTransaction a s (.next (accessError a s))

/-- An access of the wrong size (R156). -/
def execWidthError (_w : Window) (_offset : Byte) (a : Access) (s : State) : Result :=
  hostTransaction a s (.next (accessError a s))

/-- A write to CMD or CTL while a deferred operation is outstanding: no effect at all (R155;
70_reset_and_hazards.md R321). -/
def execDroppedWrite (_w : Window) (_offset : Byte) (_a : Access) (s : State) : Result := hostAccess s (.next s)

end Sys2Proof.Machine
end

