-- ==== Sys2Proof/Machine/BusMaster.lean ====
section
/-!
DEFINITION. Host accesses to the bus-master window and its configuration alias (43_busmaster_dma.md R240 to R246;
40_register_access.md R154), and the descriptor row (43_busmaster_dma.md R250).
-/

namespace Sys2Proof.Machine

/-! ## Byte registers -/

/-- The write of BM_COMMAND: START and RW stored; the START edges set and clear ACTIVE; the rising edge evaluates
the kick (R242). -/
def writeBmCommand (v : Byte) (s : State) : Result :=
  let old := isStart s.bm.command
  let s1 := s.withBm { s.bm with command := storedCommand v }
  if !old && isStart v then
    kick (.startWrite v) (s1.withBm { s1.bm with status := withActive s1.bm.status })
  else if old && !isStart v then
    .next (s1.withBm { s1.bm with status := withoutActive s1.bm.status })
  else .next s1

/-- The write of BM_STATUS (R244). -/
def writeBmStatus (v : Byte) (s : State) : State :=
  let s1 := s.withBm { s.bm with status := writtenStatus s.cfg.iblkMask s.bm.status v }
  if v.getLsbD 2 then cancelInterrupt s1 else s1

/-- BM_UDMA is storage (R245). -/
def writeBmUdma (v : Byte) (s : State) : State := s.withBm { s.bm with udmaTiming := v }

/-- Byte `j` of BM_PRDPTR replaced, the other 24 bits kept (R246). -/
def withPrdByte (p : Word) (j : Nat) (v : Byte) : Word :=
  (p &&& ~~~((0xFF#32) <<< (8 * j))) ||| ((v.setWidth 32) <<< (8 * j))

/-- The write of byte `j` of BM_PRDPTR (R246). -/
def writeBmPrdByte (j : Nat) (v : Byte) (s : State) : State :=
  s.withBm { s.bm with prdPtr := withPrdByte s.bm.prdPtr j v }

/-- What a byte read at window offset `o` returns; an offset that is not this channel's reads `0x00`
(R240 to R246). -/
def bmReadByte (o : Nat) (s : State) : Byte :=
  let b := s.cfg.channel.base
  if o < b then 0x00
  else
    match o - b with
    | 0 => s.bm.command
    | 1 => 0x00
    | 2 => statusView s.bm.status s.irqPending
    | 3 => s.bm.udmaTiming
    | 4 => byteOf s.bm.prdPtr 0
    | 5 => byteOf s.bm.prdPtr 1
    | 6 => byteOf s.bm.prdPtr 2
    | 7 => byteOf s.bm.prdPtr 3
    | _ => 0x00

/-- A byte write at window offset `o`; an offset that is not this channel's ignores it (R240 to R246). -/
def bmWriteByte (o : Nat) (v : Byte) (s : State) : Result :=
  let b := s.cfg.channel.base
  if o < b then .next s
  else
    match o - b with
    | 0 => writeBmCommand v s
    | 1 => .next s
    | 2 => .next (writeBmStatus v s)
    | 3 => .next (writeBmUdma v s)
    | 4 => .next (writeBmPrdByte 0 v s)
    | 5 => .next (writeBmPrdByte 1 v s)
    | 6 => .next (writeBmPrdByte 2 v s)
    | 7 => .next (writeBmPrdByte 3 v s)
    | _ => .next s

/-- Byte writes at ascending offsets (R240). -/
def bmWriteBytes : Nat → List Byte → State → Result
  | _, [], s => .next s
  | o, b :: bs, s => andThen (bmWriteByte o b s) (bmWriteBytes (o + 1) bs)

/-- The datum a read of `n` bytes at offset `o` returns (R240). -/
def bmReadDatum (o n : Nat) (s : State) : Word := datumOf ((List.range n).map fun i => bmReadByte (o + i) s)

/-- A bus-master access of any size: its bytes at ascending offsets, all in one step (R240). -/
def bmAccess (o : Nat) (a : Access) (s : State) : Result :=
  if a.isWrite then bmWriteBytes o (writeBytesOf a) s else .next (s.returns (bmReadDatum o a.size s))

/-! ## Meanings -/

/-- `IOR8 BM_COMMAND` (R241). -/
def execIor8BmCommand (s : State) : Result := readByte s.bm.command s

/-- `IOW8 BM_COMMAND, v` (R242). -/
def execIow8BmCommand (v : Byte) (s : State) : Result := hostAccess s (writeBmCommand v s)

/-- `IOR8` at the empty offset (R245). -/
def execIor8BmReserved (s : State) : Result := readByte 0x00 s

/-- `IOW8` at the empty offset: ignored (R245). -/
def execIow8BmReserved (_v : Byte) (s : State) : Result := hostAccess s (.next s)

/-- `IOR8 BM_STATUS` (R243). -/
def execIor8BmStatus (s : State) : Result := readByte (statusView s.bm.status s.irqPending) s

/-- `IOW8 BM_STATUS, v` (R244). -/
def execIow8BmStatus (v : Byte) (s : State) : Result := hostAccess s (.next (writeBmStatus v s))

/-- `IOR8 BM_UDMA` (R245). -/
def execIor8BmUdma (s : State) : Result := readByte s.bm.udmaTiming s

/-- `IOW8 BM_UDMA, v` (R245). -/
def execIow8BmUdma (v : Byte) (s : State) : Result := hostAccess s (.next (writeBmUdma v s))

/-- `IOR8 BM_PRDPTR`, byte 0 (R246). -/
def execIor8BmPrdptr0 (s : State) : Result := readByte (byteOf s.bm.prdPtr 0) s

/-- `IOW8 BM_PRDPTR, v`, byte 0 (R246). -/
def execIow8BmPrdptr0 (v : Byte) (s : State) : Result := hostAccess s (.next (writeBmPrdByte 0 v s))

/-- `IOR8 BM_PRDPTR`, byte 1 (R246). -/
def execIor8BmPrdptr1 (s : State) : Result := readByte (byteOf s.bm.prdPtr 1) s

/-- `IOW8 BM_PRDPTR, v`, byte 1 (R246). -/
def execIow8BmPrdptr1 (v : Byte) (s : State) : Result := hostAccess s (.next (writeBmPrdByte 1 v s))

/-- `IOR8 BM_PRDPTR`, byte 2 (R246). -/
def execIor8BmPrdptr2 (s : State) : Result := readByte (byteOf s.bm.prdPtr 2) s

/-- `IOW8 BM_PRDPTR, v`, byte 2 (R246). -/
def execIow8BmPrdptr2 (v : Byte) (s : State) : Result := hostAccess s (.next (writeBmPrdByte 2 v s))

/-- `IOR8 BM_PRDPTR`, byte 3 (R246). -/
def execIor8BmPrdptr3 (s : State) : Result := readByte (byteOf s.bm.prdPtr 3) s

/-- `IOW8 BM_PRDPTR, v`, byte 3 (R246). -/
def execIow8BmPrdptr3 (v : Byte) (s : State) : Result := hostAccess s (.next (writeBmPrdByte 3 v s))

/-- A byte access to an offset that is not this channel's: a read returns `0x00`, a write is ignored (R240). -/
def execBmOtherChannel (_offset : Byte) (a : Access) (s : State) : Result :=
  hostAccess s (if a.isWrite then .next s else .next (s.returns 0))

/-- An access of 2 or 4 bytes (R240). -/
def execBmMultibyte (offset : Byte) (a : Access) (s : State) : Result :=
  hostAccess s (bmAccess offset.toNat a s)

/-- The configuration alias: the bus-master access at the rebased offset; every other configuration offset is
the PCI framework's, and the access is handed to it (40_register_access.md R154; 20_memory.md R63; log 11). -/
def execCfgAlias (offset : Byte) (a : Access) (s : State) : Result :=
  hostAccess s
    (if s.cfg.cfgBmBase ≤ offset.toNat ∧ offset.toNat < s.cfg.cfgBmBase + 16 then
      bmAccess (offset.toNat - s.cfg.cfgBmBase) a s
     else
      let s1 := s.emit (.framework offset a)
      .next (if a.isWrite then s1 else s1.returnsFree a.size))

/-- A descriptor handed to the walker: one that awaits a descriptor takes it; otherwise a descriptor is no
operation of the block and has no effect (R250; 30_encoding.md R113; log 14). -/
def execPrdEntry (address : Word) (count : Half) (_ignored : BitVec 15) (eot : Bool) (s : State) : Result :=
  hostAccess s
    (match s.walk with
     | .running w => .next (if awaitsDescriptor w then takeDescriptor w address count eot s else s)
     | .idle => .next s
     | .pending => .next s)

end Sys2Proof.Machine
end

