-- ==== Sys2Proof/Machine/Worker.lean ====
section
/-!
DEFINITION. The worker agent (60_exceptions.md R295, R296), the environment's changes, and the fetch of the next
request from the queue.
-/

namespace Sys2Proof.Machine

/-! ## The worker -/

/-- `slot.op <- IDLE` is part of the operation's last step: it happens when no walk is left to do (R295). -/
def finishOperation (s : State) : State := if s.walk = .idle then freeSlot s else s

/-- The set-up step of a deferred walk (43_busmaster_dma.md R248). -/
def startDeferredWalk (s : State) : Result := ifDirectionAgrees s (walkSetup s)

/-- The first step of the descriptor in the slot (R295). -/
def beginOperation (s : State) : Result :=
  match s.slot.op, s.slot.reg, s.slot.port with
  | .write, .cmd, 7 =>
    andThen (execDeferred (s.slot.data.setWidth 8) s) fun s1 => .next (finishOperation s1)
  | .read, .cmd, 0 => .next (finishOperation (continueSector s))
  | .write, .bm, _ => startDeferredWalk s
  | .write, .cmd, 0 => startDeferredWalk s
  | _, _, _ => .next s

/-- One step of the worker; a worker with nothing to do leaves the state as it is (R295). -/
def workerStep (s : State) : Result :=
  hostAccess s
    (match s.walk with
     | .running w => .next (finishOperation (walkStep w s))
     | .pending => startDeferredWalk s
     | .idle => beginOperation s)

/-! ## The environment (20_memory.md R77) -/

/-- Another master stores a byte of guest memory (R81). -/
def storeFromOutside (addr : Word) (v : Byte) (s : State) : State :=
  { s with mem := s.mem.write addr.toNat v }

/-- The environment changes a device, a medium change for one (93_implementation_defined.md U10). -/
def changeDevice (d : DriveId) (x : Device) (s : State) : State := { s with devices := s.devices.set d x }

/-! ## The queue -/

/-- What the decoder needs of the state. -/
def State.decodeContext (s : State) : DecodeContext := { channel := s.cfg.channel, busy := slotBusy s }

/-- The item of the queue whose turn it is has been taken. -/
def State.pop (s : State) : State := { s with inbox := s.inbox.tail }

/-- The result of an item, with the item taken from the queue. -/
def popped (r : Result) : Result := andThen r fun s => .next s.pop

end Sys2Proof.Machine
end

