-- ==== Sys2Proof/Machine/Dispatch.lean ====
section
/-!
DEFINITION. One arm for each instruction: the direct call of its meaning.
-/

namespace Sys2Proof.Machine

def exec (i : Instr) (s : State) : Host.Outcome State Fault Refusal :=
  match i with
  | .ior16Data => Sys2Proof.Machine.execIor16Data s
  | .iow16Data v => Sys2Proof.Machine.execIow16Data v s
  | .ior8Error => Sys2Proof.Machine.execIor8Error s
  | .iow8Feature v => Sys2Proof.Machine.execIow8Feature v s
  | .ior8SectorCount => Sys2Proof.Machine.execIor8SectorCount s
  | .iow8SectorCount v => Sys2Proof.Machine.execIow8SectorCount v s
  | .ior8SectorNumber => Sys2Proof.Machine.execIor8SectorNumber s
  | .iow8SectorNumber v => Sys2Proof.Machine.execIow8SectorNumber v s
  | .ior8CylLsb => Sys2Proof.Machine.execIor8CylLsb s
  | .iow8CylLsb v => Sys2Proof.Machine.execIow8CylLsb v s
  | .ior8CylMsb => Sys2Proof.Machine.execIor8CylMsb s
  | .iow8CylMsb v => Sys2Proof.Machine.execIow8CylMsb v s
  | .ior8DriveHead => Sys2Proof.Machine.execIor8DriveHead s
  | .iow8DriveHead v => Sys2Proof.Machine.execIow8DriveHead v s
  | .ior8Status => Sys2Proof.Machine.execIor8Status s
  | .iow8Command v => Sys2Proof.Machine.execIow8Command v s
  | .ior8Status2 => Sys2Proof.Machine.execIor8Status2 s
  | .iow8Output v => Sys2Proof.Machine.execIow8Output v s
  | .ctlInvalid offset a => Sys2Proof.Machine.execCtlInvalid offset a s
  | .ior8BmCommand => Sys2Proof.Machine.execIor8BmCommand s
  | .iow8BmCommand v => Sys2Proof.Machine.execIow8BmCommand v s
  | .ior8BmReserved => Sys2Proof.Machine.execIor8BmReserved s
  | .iow8BmReserved v => Sys2Proof.Machine.execIow8BmReserved v s
  | .ior8BmStatus => Sys2Proof.Machine.execIor8BmStatus s
  | .iow8BmStatus v => Sys2Proof.Machine.execIow8BmStatus v s
  | .ior8BmUdma => Sys2Proof.Machine.execIor8BmUdma s
  | .iow8BmUdma v => Sys2Proof.Machine.execIow8BmUdma v s
  | .ior8BmPrdptr0 => Sys2Proof.Machine.execIor8BmPrdptr0 s
  | .iow8BmPrdptr0 v => Sys2Proof.Machine.execIow8BmPrdptr0 v s
  | .ior8BmPrdptr1 => Sys2Proof.Machine.execIor8BmPrdptr1 s
  | .iow8BmPrdptr1 v => Sys2Proof.Machine.execIow8BmPrdptr1 v s
  | .ior8BmPrdptr2 => Sys2Proof.Machine.execIor8BmPrdptr2 s
  | .iow8BmPrdptr2 v => Sys2Proof.Machine.execIow8BmPrdptr2 v s
  | .ior8BmPrdptr3 => Sys2Proof.Machine.execIor8BmPrdptr3 s
  | .iow8BmPrdptr3 v => Sys2Proof.Machine.execIow8BmPrdptr3 v s
  | .bmOtherChannel offset a => Sys2Proof.Machine.execBmOtherChannel offset a s
  | .bmMultibyte offset a => Sys2Proof.Machine.execBmMultibyte offset a s
  | .cfgAlias offset a => Sys2Proof.Machine.execCfgAlias offset a s
  | .widthError w offset a => Sys2Proof.Machine.execWidthError w offset a s
  | .droppedWrite w offset a => Sys2Proof.Machine.execDroppedWrite w offset a s
  | .readSector => Sys2Proof.Machine.execReadSector s
  | .writeSector => Sys2Proof.Machine.execWriteSector s
  | .packet => Sys2Proof.Machine.execPacket s
  | .identifyPacket => Sys2Proof.Machine.execIdentifyPacket s
  | .readDma => Sys2Proof.Machine.execReadDma s
  | .writeDma => Sys2Proof.Machine.execWriteDma s
  | .standbyImmediate => Sys2Proof.Machine.execStandbyImmediate s
  | .sleep => Sys2Proof.Machine.execSleep s
  | .flushCache => Sys2Proof.Machine.execFlushCache s
  | .identify => Sys2Proof.Machine.execIdentify s
  | .setFeatures => Sys2Proof.Machine.execSetFeatures s
  | .ataUnknown opcode => Sys2Proof.Machine.execAtaUnknown opcode s
  | .requestSense alloc => Sys2Proof.Machine.execRequestSense alloc s
  | .inquiry alloc => Sys2Proof.Machine.execInquiry alloc s
  | .modeSense6 pc page alloc => Sys2Proof.Machine.execModeSense6 pc page alloc s
  | .modeSense10 pc page alloc => Sys2Proof.Machine.execModeSense10 pc page alloc s
  | .readToc msf format track alloc => Sys2Proof.Machine.execReadToc msf format track alloc s
  | .readDvdStructure address layer format alloc => Sys2Proof.Machine.execReadDvdStructure address layer format alloc s
  | .read10 lba len => Sys2Proof.Machine.execRead10 lba len s
  | .read12 lba len => Sys2Proof.Machine.execRead12 lba len s
  | .readCd lba len sub subch => Sys2Proof.Machine.execReadCd lba len sub subch s
  | .pktUnknown opcode => Sys2Proof.Machine.execPktUnknown opcode s
  | .prdEntry address count ignored eot => Sys2Proof.Machine.execPrdEntry address count ignored eot s

end Sys2Proof.Machine
end

