-- ==== Sys2Proof/Machine/Step.lean ====
section
/-!
DEFINITION. One step of the machine: the next item of the queue. There is no program counter (10_state.md R36):
the queue of host transactions, worker turns and environment changes takes its place (log 8).
-/

namespace Sys2Proof.Machine

/-- One step. A faulted block has none (60_exceptions.md R274). A request is decoded and run; a worker's turn and
a change of the environment are taken as they stand; with nothing in the queue the worker goes on (log 16). -/
def step (s : State) : Host.Outcome State Fault Refusal :=
  match s.fault with
  | some r => .fault (.blockFaulted r)
  | none =>
    match s.inbox with
    | [] => workerStep s
    | .request f bytes :: _ =>
      match decode s.decodeContext f bytes with
      | .ok i => popped (exec i s)
      | .error e => .refused (.undecodable e)
    | .worker :: _ => popped (workerStep s)
    | .memoryStore addr v :: _ => .next (storeFromOutside addr v s).pop
    | .deviceChange d x :: _ => .next (changeDevice d x s).pop

/-- `s` with the instruction of a table row's bits as the next request of the queue (log 8, log 15). -/
def State.withFetchWord (s : State) (nbits w : Nat) : State :=
  match tableRequest nbits w with
  | some (f, bytes) => { s with inbox := .request f bytes :: s.inbox }
  | none => s

end Sys2Proof.Machine
end

