-- ==== Sys2Proof/Safety.lean ====
section
/-!
DEFINITION. The terms the statements use: when the host may act, the invariants of 10_state.md R45 with what they
need to be kept by every step, and which instructions may start a walk.
-/

namespace Sys2Proof.Machine

/-- The block is not faulted: a host access is answered (60_exceptions.md R274). -/
abbrev Live (s : State) : Prop := s.fault = none

/-- A write to CMD or CTL is performed: the block is live and no deferred operation is outstanding
(70_reset_and_hazards.md R321). -/
abbrev Accepting (s : State) : Prop := s.fault = none ∧ s.slot.op = .idle

/-- A command byte on an installed drive whose protocol is `p` reaches its `Exec` or its deferral
(41_ata_commands.md R170). -/
abbrev AcceptingCommand (s : State) (p : Protocol) : Prop :=
  Accepting s ∧ s.selCfg.installed = true ∧ s.selCfg.protocol = p

/-- A drive waits for a packet (42_atapi_packet.md R201). -/
abbrev AwaitingPacket (s : State) : Prop :=
  Accepting s ∧ s.sel.state = .packetReceive ∧ isBusy s.sel.status = false

/-- The state in which a packet's handler starts: the packet in the buffer, the cursor at 0
(40_register_access.md R136). -/
def packetReceived (bytes : List Byte) (s : State) : State :=
  let s1 := s.putBuffer 0 bytes
  s1.withDrive { s1.sel with sectorPos := 0 }

/-! ## The invariants of 10_state.md R45 -/

/-- R45 (b): one of the five values of 30_encoding.md R100, or one of them with ERR added. -/
abbrev StatusLegal (status : Byte) : Prop :=
  status = statusReady ∨ status = statusData ∨ status = statusError ∨ status = statusAbsent ∨
    status = statusBusy ∨ status = 0x49 ∨ status = 0x81

/-- A deferred register access is in the slot (R45 d). -/
abbrev SlotOccupied (s : State) : Prop := s.slot.op = .read ∨ s.slot.op = .write

/-- R45 (a), with the evenness of 10_state.md R36: between two accesses the cursor is even and strictly inside the
unit, and the unit fits the buffer. -/
abbrev CursorOk (maxBlock : Nat) (x : Drive) : Prop :=
  x.sectorPos % 2 = 0 ∧ x.unitSize % 2 = 0 ∧ x.sectorPos < x.unitSize ∧ x.unitSize ≤ maxBlock

/-- R45 (a) to (d) and (g) for slot `d`; an uninstalled drive stays idle, and only an uninstalled one shows `0x01`
(30_encoding.md R100). -/
abbrev DriveOk (s : State) (d : DriveId) : Prop :=
  CursorOk s.cfg.maxBlock (s.drives.get d) ∧
    StatusLegal (s.drives.get d).status ∧
    (isDataRequest (s.drives.get d).status = true ↔
      ((s.drives.get d).state ≠ .idle ∧ isBusy (s.drives.get d).status = false)) ∧
    (isBusy (s.drives.get d).status = true ↔ (d = s.selectedDrive ∧ SlotOccupied s)) ∧
    driveSelected (s.drives.get d).head = d ∧
    ((s.cfg.drives.get d).installed = false → (s.drives.get d).state = .idle) ∧
    ((s.cfg.drives.get d).installed = true → (s.drives.get d).status ≠ statusAbsent) ∧
    ((s.cds.get d).sectorSize = 2048 ∨ (s.cds.get d).sectorSize = 2352)

/-- What the mailbox and the walk may hold (30_encoding.md R121; 43_busmaster_dma.md R247; 10_state.md R41, R45 f):
nothing without deferral; a walk only behind a WRITE descriptor; a descriptor only for an installed drive; a
continue-sector load only in `PIO_READ`; a command only if it is a deferrable one. -/
abbrev MailboxOk (s : State) : Prop :=
  (s.cfg.defer = false → s.slot.op = .idle ∧ s.walk = .idle) ∧
    (s.walk ≠ .idle → s.slot.op = .write) ∧
    (SlotOccupied s → s.selCfg.installed = true) ∧
    (s.slot.op = .read → s.slot.reg = .cmd ∧ s.slot.port = 0 ∧ s.sel.state = .pioRead) ∧
    (s.slot.op = .write → s.slot.reg = .cmd → s.slot.port = 7 → s.walk = .idle →
      s.slot.data.setWidth 8 = 0x20#8 ∨ s.slot.data.setWidth 8 = 0x30#8 ∨ s.slot.data.setWidth 8 = 0xC8#8 ∨
        s.slot.data.setWidth 8 = 0xCA#8)

/-- The bus-master registers hold only the bits 30_encoding.md R108 and R110 store. -/
abbrev BusMasterOk (s : State) : Prop :=
  s.bm.command &&& 0xF6#8 = 0 ∧ s.bm.status &&& (0x9C#8 &&& ~~~s.cfg.iblkMask) = 0

/-- The invariant of the channel: 10_state.md R45 (a) to (g) and what keeps them. -/
abbrev ChannelInv (s : State) : Prop :=
  s.cfg.wf = true ∧ DriveOk s .master ∧ DriveOk s .slave ∧ s.irqLine = s.irqPending ∧ MailboxOk s ∧
    BusMasterOk s

/-! ## Deferred operations -/

/-- `n` turns of the worker with nothing between them (60_exceptions.md R295). -/
def workerTurns : Nat → State → Result
  | 0, s => .next s
  | n + 1, s => andThen (workerStep s) (workerTurns n)

/-- The worker's next turn sets a walk up: the kick was found true at the end of a deferred command, or the slot holds
one of the two descriptors of a walk (43_busmaster_dma.md R247; 60_exceptions.md R295). -/
abbrev WalkHandedOver (s : State) : Prop :=
  s.walk = .pending ∨
    (s.walk = .idle ∧ s.slot.op = .write ∧ (s.slot.reg = .bm ∨ (s.slot.reg = .cmd ∧ s.slot.port = 0)))

/-! ## Which instructions may start a walk -/

/-- The instructions that can evaluate the kick (43_busmaster_dma.md R247): a START write, a DMA command, the last
word of a packet, and the forms that carry one of them. -/
def mayStartWalk : Instr → Bool
  | .iow8BmCommand _ | .bmMultibyte _ _ | .cfgAlias _ _ => true
  | .iow8Command _ | .readDma | .writeDma => true
  | .iow16Data _ | .read10 _ _ | .read12 _ _ | .readCd _ _ _ _ => true
  | .ior16Data | .ior8Error | .iow8Feature _ | .ior8SectorCount | .iow8SectorCount _ | .ior8SectorNumber
  | .iow8SectorNumber _ | .ior8CylLsb | .iow8CylLsb _ | .ior8CylMsb | .iow8CylMsb _ | .ior8DriveHead
  | .iow8DriveHead _ | .ior8Status | .ior8Status2 | .iow8Output _ | .ctlInvalid _ _ | .ior8BmCommand
  | .ior8BmReserved | .iow8BmReserved _ | .ior8BmStatus | .iow8BmStatus _ | .ior8BmUdma | .iow8BmUdma _
  | .ior8BmPrdptr0 | .iow8BmPrdptr0 _ | .ior8BmPrdptr1 | .iow8BmPrdptr1 _ | .ior8BmPrdptr2 | .iow8BmPrdptr2 _
  | .ior8BmPrdptr3 | .iow8BmPrdptr3 _ | .bmOtherChannel _ _ | .widthError _ _ _ | .droppedWrite _ _ _
  | .readSector | .writeSector | .packet | .identifyPacket | .standbyImmediate | .sleep | .flushCache
  | .identify | .setFeatures | .ataUnknown _ | .requestSense _ | .inquiry _ | .modeSense6 _ _ _
  | .modeSense10 _ _ _ | .readToc _ _ _ _ | .readDvdStructure _ _ _ _ | .pktUnknown _ | .prdEntry _ _ _ _ => false

/-- The instructions that reach another drive than the selected one: the selection itself and the software reset
(10_state.md R21, R23; 40_register_access.md R146, R152). -/
def reachesBothDrives : Instr → Bool
  | .iow8DriveHead _ => true
  | .iow8Output v => resetRequested v
  | .ior16Data | .iow16Data _ | .ior8Error | .iow8Feature _ | .ior8SectorCount | .iow8SectorCount _
  | .ior8SectorNumber | .iow8SectorNumber _ | .ior8CylLsb | .iow8CylLsb _ | .ior8CylMsb | .iow8CylMsb _
  | .ior8DriveHead | .ior8Status | .iow8Command _ | .ior8Status2 | .ctlInvalid _ _ | .ior8BmCommand
  | .iow8BmCommand _ | .ior8BmReserved | .iow8BmReserved _ | .ior8BmStatus | .iow8BmStatus _ | .ior8BmUdma
  | .iow8BmUdma _ | .ior8BmPrdptr0 | .iow8BmPrdptr0 _ | .ior8BmPrdptr1 | .iow8BmPrdptr1 _ | .ior8BmPrdptr2
  | .iow8BmPrdptr2 _ | .ior8BmPrdptr3 | .iow8BmPrdptr3 _ | .bmOtherChannel _ _ | .bmMultibyte _ _
  | .cfgAlias _ _ | .widthError _ _ _ | .droppedWrite _ _ _ | .readSector | .writeSector | .packet
  | .identifyPacket | .readDma | .writeDma | .standbyImmediate | .sleep | .flushCache | .identify | .setFeatures
  | .ataUnknown _ | .requestSense _ | .inquiry _ | .modeSense6 _ _ _ | .modeSense10 _ _ _ | .readToc _ _ _ _
  | .readDvdStructure _ _ _ _ | .read10 _ _ | .read12 _ _ | .readCd _ _ _ _ | .pktUnknown _ | .prdEntry _ _ _ _ => false

/-- The writes to the CMD and CTL windows, and the commands and packets such writes carry
(70_reset_and_hazards.md R321). -/
def isRegisterWrite : Instr → Bool
  | .iow16Data _ | .iow8Feature _ | .iow8SectorCount _ | .iow8SectorNumber _ | .iow8CylLsb _ | .iow8CylMsb _
  | .iow8DriveHead _ | .iow8Command _ | .iow8Output _ => true
  | .ctlInvalid _ a | .widthError _ _ a => a.isWrite
  | .droppedWrite _ _ _ => true
  | .readSector | .writeSector | .packet | .identifyPacket | .readDma | .writeDma | .standbyImmediate | .sleep
  | .flushCache | .identify | .setFeatures | .ataUnknown _ => true
  | .requestSense _ | .inquiry _ | .modeSense6 _ _ _ | .modeSense10 _ _ _ | .readToc _ _ _ _
  | .readDvdStructure _ _ _ _ | .read10 _ _ | .read12 _ _ | .readCd _ _ _ _ | .pktUnknown _ => true
  | .ior16Data | .ior8Error | .ior8SectorCount | .ior8SectorNumber | .ior8CylLsb | .ior8CylMsb | .ior8DriveHead
  | .ior8Status | .ior8Status2 | .ior8BmCommand | .iow8BmCommand _ | .ior8BmReserved | .iow8BmReserved _
  | .ior8BmStatus | .iow8BmStatus _ | .ior8BmUdma | .iow8BmUdma _ | .ior8BmPrdptr0 | .iow8BmPrdptr0 _
  | .ior8BmPrdptr1 | .iow8BmPrdptr1 _ | .ior8BmPrdptr2 | .iow8BmPrdptr2 _ | .ior8BmPrdptr3 | .iow8BmPrdptr3 _
  | .bmOtherChannel _ _ | .bmMultibyte _ _ | .cfgAlias _ _ | .prdEntry _ _ _ _ => false

/-- What a streamed packet read asks for: the first block, the number of blocks, the block size
(42_atapi_packet.md R211, R212). -/
def streamRequest : Instr → Option (Word × Nat × Nat)
  | .read10 lba len => some (lba, len.toNat, 2048)
  | .read12 lba len => some (lba, len.toNat, 2048)
  | .readCd lba len sub subch =>
    match readCdRequest sub subch with
    | .sectors ss => some (lba, len.toNat, ss)
    | _ => none
  | .ior16Data | .iow16Data _ | .ior8Error | .iow8Feature _ | .ior8SectorCount | .iow8SectorCount _
  | .ior8SectorNumber | .iow8SectorNumber _ | .ior8CylLsb | .iow8CylLsb _ | .ior8CylMsb | .iow8CylMsb _
  | .ior8DriveHead | .iow8DriveHead _ | .ior8Status | .iow8Command _ | .ior8Status2 | .iow8Output _
  | .ctlInvalid _ _ | .ior8BmCommand | .iow8BmCommand _ | .ior8BmReserved | .iow8BmReserved _ | .ior8BmStatus
  | .iow8BmStatus _ | .ior8BmUdma | .iow8BmUdma _ | .ior8BmPrdptr0 | .iow8BmPrdptr0 _ | .ior8BmPrdptr1
  | .iow8BmPrdptr1 _ | .ior8BmPrdptr2 | .iow8BmPrdptr2 _ | .ior8BmPrdptr3 | .iow8BmPrdptr3 _
  | .bmOtherChannel _ _ | .bmMultibyte _ _ | .cfgAlias _ _ | .widthError _ _ _ | .droppedWrite _ _ _
  | .readSector | .writeSector | .packet | .identifyPacket | .readDma | .writeDma | .standbyImmediate | .sleep
  | .flushCache | .identify | .setFeatures | .ataUnknown _ | .requestSense _ | .inquiry _ | .modeSense6 _ _ _
  | .modeSense10 _ _ _ | .readToc _ _ _ _ | .readDvdStructure _ _ _ _ | .pktUnknown _ | .prdEntry _ _ _ _ => none

/-- The packets whose handlers touch the medium (42_atapi_packet.md R218). -/
def touchesMedium : Instr → Bool
  | .readToc _ _ _ _ | .readDvdStructure _ _ _ _ | .read10 _ _ | .read12 _ _ | .readCd _ _ _ _ => true
  | .ior16Data | .iow16Data _ | .ior8Error | .iow8Feature _ | .ior8SectorCount | .iow8SectorCount _
  | .ior8SectorNumber | .iow8SectorNumber _ | .ior8CylLsb | .iow8CylLsb _ | .ior8CylMsb | .iow8CylMsb _
  | .ior8DriveHead | .iow8DriveHead _ | .ior8Status | .iow8Command _ | .ior8Status2 | .iow8Output _
  | .ctlInvalid _ _ | .ior8BmCommand | .iow8BmCommand _ | .ior8BmReserved | .iow8BmReserved _ | .ior8BmStatus
  | .iow8BmStatus _ | .ior8BmUdma | .iow8BmUdma _ | .ior8BmPrdptr0 | .iow8BmPrdptr0 _ | .ior8BmPrdptr1
  | .iow8BmPrdptr1 _ | .ior8BmPrdptr2 | .iow8BmPrdptr2 _ | .ior8BmPrdptr3 | .iow8BmPrdptr3 _
  | .bmOtherChannel _ _ | .bmMultibyte _ _ | .cfgAlias _ _ | .widthError _ _ _ | .droppedWrite _ _ _
  | .readSector | .writeSector | .packet | .identifyPacket | .readDma | .writeDma | .standbyImmediate | .sleep
  | .flushCache | .identify | .setFeatures | .ataUnknown _ | .requestSense _ | .inquiry _ | .modeSense6 _ _ _
  | .modeSense10 _ _ _ | .pktUnknown _ | .prdEntry _ _ _ _ => false

end Sys2Proof.Machine
end

