-- ==== Sys2Proof/Certificates/Slice0/Obligations.lean ====
section
/-!
DEFINITION. The statements for the provers. Each says what a numbered rule of spec/ says of the model, or a law the
model's rules imply; the docstring names the rule. A next state written out as an update of the state before is its
own frame: every component not written stands as it was, guest memory included.
-/

open Sys2Proof Sys2Proof.Machine

/-! ## Encoding -/

/-- Decoding what a well-formed instruction encodes to gives the instruction, on either channel, with every operand
at every value (30_encoding.md R90 to R93, R102, R113, R116 to R118). -/
def Obligations.DecodeEncodeAgree : Prop :=
  ∀ (ch : Channel) (i : Instr), i.wellFormed ch = true →
    decode (i.context ch) (encode ch i).1 (encode ch i).2 = .ok i

/-- A transaction's bytes have one meaning: what they decode to is well-formed and encodes to the same bytes
(30_encoding.md R90 to R94). -/
def Obligations.IoBytesHaveOneMeaning : Prop :=
  ∀ (cx : DecodeContext) (bytes : List Byte) (i : Instr),
    decode cx .io bytes = .ok i → i.wellFormed cx.channel = true ∧ encode cx.channel i = (.io, bytes)

/-- Words written out from the maps of 30_encoding.md decode to the instructions they stand for: `IOW8 COMMAND, 0xEC`
(R91), `IOR8 STATUS2` (R92), a write of BM_PRDPTR byte 1 (R93), READ_DMA (R102), READ_10 of block 16 (R116, R117)
and a descriptor of 64 KiB with the end-of-table flag (R113). -/
def Obligations.WrittenWordsDecode : Prop :=
  decode tableContext .io [0x07, 0x80, 0x01, 0xEC] = .ok (.iow8Command 0xEC) ∧
    decode tableContext .io [0x06, 0x10, 0x01] = .ok .ior8Status2 ∧
    decode tableContext .io [0x05, 0xA0, 0x01, 0x20] = .ok (.iow8BmPrdptr1 0x20) ∧
    decode tableContext .ata [0xC8] = .ok .readDma ∧
    decode tableContext .pkt [0x28, 0, 0, 0, 0, 0x10, 0, 0, 0x01, 0, 0, 0] = .ok (.read10 16 1) ∧
    decode tableContext .prd [0x00, 0x10, 0x20, 0x00, 0x00, 0x00, 0x00, 0x80] =
      .ok (.prdEntry 0x00201000 0 0 true)

/-! ## The step -/

/-- When the next item of the queue is a request whose bytes decode to `i`, the step is `exec i`, with the request
taken from the queue (20_memory.md R62, R75; the queue is the model's, log 8). -/
def Obligations.StepRunsDecodedRequest : Prop :=
  ∀ (s : State) (f : Format) (bytes : List Byte) (rest : List Input) (i : Instr),
    s.fault = none → s.inbox = .request f bytes :: rest → decode s.decodeContext f bytes = .ok i →
      (∀ t, exec i s = .next t → step s = .next { t with inbox := t.inbox.tail }) ∧
        (∀ x, exec i s = .fault x → step s = .fault x) ∧ (∀ x, exec i s = .refused x → step s = .refused x)

/-- No instruction and no step changes the parameters (10_state.md R20: the configuration "never changes after the
channel is initialised"). No instruction changes the queue of transactions, and a step changes it only by taking its
first item: the queue and what a step does with it are the model's choice (log 8). -/
def Obligations.ParametersNeverChange : Prop :=
  (∀ (i : Instr) (s t : State), exec i s = .next t → t.cfg = s.cfg ∧ t.inbox = s.inbox) ∧
    ∀ (s t : State), step s = .next t → t.cfg = s.cfg ∧ t.inbox = s.inbox.tail

/-- A faulted block takes no step: every access, every turn of the worker and every environment item faults
(60_exceptions.md R274; 93_implementation_defined.md U4). That the missing step is a fault outcome is the model's
choice (log 12). -/
def Obligations.FaultedBlockTakesNoStep : Prop :=
  ∀ (s : State) (r : FatalReason), s.fault = some r →
    step s = .fault (.blockFaulted r) ∧ ∀ i : Instr, exec i s = .fault (.blockFaulted r)

/-! ## Reset and invariants -/

/-- The values after reset, for any parameters and any devices, are those of 10_state.md R46's table, and no
interface event is emitted; R46 calls every value of the table the spec's own choice (decision D42). The buffer and
the mailbox fields other than `op` are not mentioned: R46 leaves them unspecified. -/
def Obligations.ResetGivesTheTable : Prop :=
  ∀ (c : ChannelConfig) (devices : Pair Device),
    let s := State.resetWith c devices
    s.cfg = c ∧ s.devices = devices ∧ s.events = [] ∧ s.selectedDrive = .master ∧
      (∀ d : DriveId,
        let p := c.drives.get d
        let x := s.drives.get d
        let cd := s.cds.get d
        x.status = (if p.installed = true then 0x40#8 else 0x01#8) ∧
          x.error = (if p.installed = true then 0x00#8 else 0x04#8) ∧
          x.feature = 0x00 ∧ x.sectorCount = 0x01 ∧ x.sectorNumber = 0x01 ∧
          x.cylinder = (if p.protocol = .atapi then 0xEB14#16 else 0x0000#16) ∧
          x.head = (if d = .master then 0x00#8 else 0x10#8) ∧
          x.outputControl = 0x00 ∧ x.command = 0x00 ∧ x.dmaLbaStart = 0 ∧ x.dmaLbaCount = 0 ∧
          x.state = .idle ∧ x.sectorPos = 0 ∧ x.drqPos = 0 ∧ x.unitSize = 512 ∧
          cd.senseKey = 0 ∧ cd.asc = 0 ∧ cd.ascq = 0 ∧ cd.dma = false ∧ cd.nextLba = 0 ∧
          cd.remainingSectors = 0 ∧ cd.sectorSize = 2048 ∧ cd.declared = 0 ∧ cd.remainingBytes = 0 ∧
          s.locks.get d = false) ∧
      s.bm.command = 0x00 ∧ s.bm.status = 0x00 ∧ s.bm.udmaTiming = 0x00 ∧ s.bm.prdPtr = 0x00000000 ∧
      s.irqPending = false ∧ s.irqLine = false ∧ s.slot.op = .idle ∧ s.walk = .idle ∧ s.fault = none

/-- Reset meets the channel's invariant (10_state.md R45), and guest memory is in its canonical form, for every
admitted configuration. The form of the memory is the model's choice (log 4), and so is that `State.reset` is an
instance of Configuration K (log 1). -/
def Obligations.ResetMeetsTheInvariants : Prop :=
  (∀ (c : ChannelConfig) (devices : Pair Device), c.wf = true →
    ChannelInv (State.resetWith c devices) ∧ Memory.wf (State.resetWith c devices).mem = true) ∧
    ChannelInv State.reset ∧ Memory.wf State.reset.mem = true

/-- The invariant of the channel (10_state.md R45 (a) to (g), with what keeps them) is kept by every step from every state that meets it: the host's, the worker's and the environment's. -/
def Obligations.ChannelInvariantKept : Prop :=
  ∀ s t : State, ChannelInv s → step s = .next t → ChannelInv t

/-- Guest memory keeps its canonical form in every step. The form is the model's (log 4). -/
def Obligations.MemoryCanonicalKept : Prop :=
  ∀ s t : State, Memory.wf s.mem = true → step s = .next t → Memory.wf t.mem = true

/-- The interrupt line equals the pending bit after every step if it does before (10_state.md R45 (e);
60_exceptions.md R284). -/
def Obligations.InterruptLineFollowsPending : Prop :=
  ∀ s t : State, s.irqLine = s.irqPending → step s = .next t → t.irqLine = t.irqPending

/-- No instruction but the selection and the software reset, and no turn of the worker, touches the drive that is
not selected, its CD-ROM sub-state, its device or its lock; the selection stays (10_state.md R21, R23). -/
def Obligations.OnlySelectedDriveTouched : Prop :=
  ∀ (s t : State) (d : DriveId), d ≠ s.selectedDrive →
    ((∃ i : Instr, reachesBothDrives i = false ∧ exec i s = .next t) ∨ workerStep s = .next t) →
      t.selectedDrive = s.selectedDrive ∧ t.drives.get d = s.drives.get d ∧ t.cds.get d = s.cds.get d ∧
        t.devices.get d = s.devices.get d ∧ t.locks.get d = s.locks.get d

/-- Guest memory is written by walks only: an instruction that cannot start one, and every instruction of a block
that defers, leaves every byte of it (20_memory.md R64; 43_busmaster_dma.md R247). -/
def Obligations.GuestMemoryOnlyByWalks : Prop :=
  ∀ (i : Instr) (s t : State), (mayStartWalk i = false ∨ s.cfg.defer = true) → exec i s = .next t → t.mem = s.mem

/-! ## The task-file registers -/

/-- `IOR8 ERROR` and `IOR8 STATUS2` (40_register_access.md R140, R150): the encodings, the value, no side effect. -/
def Obligations.ErrorAndStatus2Reads : Prop :=
  (∀ cx : DecodeContext, decode cx .io [0x01, 0x00, 0x01] = .ok .ior8Error ∧
      decode cx .io [0x06, 0x10, 0x01] = .ok .ior8Status2) ∧
    (∀ s : State, Live s →
      exec .ior8Error s = .next { s with rdata := s.sel.error.setWidth 32 } ∧
        exec .ior8Status2 s = .next { s with rdata := s.sel.status.setWidth 32 }) ∧
    (∀ s : State, Live s → exec .ior8Error (raiseError .abort s) =
      .next { raiseError .abort s with rdata := 0x04 }) ∧
    (∀ s : State, AcceptingCommand s .ata → interruptGated s = false →
      ∃ t, exec .identify s = .next t ∧
        exec .ior8Status2 t = .next { t with rdata := 0x48 } ∧ t.irqPending = true)

/-- SECTOR_NUMBER, CYL_LSB and CYL_MSB (40_register_access.md R143 to R145): the encodings; a read returns the
register and changes nothing else; a write stores the byte in its half and changes nothing else. -/
def Obligations.SectorAndCylinderRegisters : Prop :=
  (∀ (cx : DecodeContext),
    decode cx .io [0x03, 0x00, 0x01] = .ok .ior8SectorNumber ∧
      decode cx .io [0x04, 0x00, 0x01] = .ok .ior8CylLsb ∧ decode cx .io [0x05, 0x00, 0x01] = .ok .ior8CylMsb) ∧
    (∀ (cx : DecodeContext) (v : Byte), cx.busy = false →
      decode cx .io [0x03, 0x80, 0x01, v] = .ok (.iow8SectorNumber v) ∧
        decode cx .io [0x04, 0x80, 0x01, v] = .ok (.iow8CylLsb v) ∧
        decode cx .io [0x05, 0x80, 0x01, v] = .ok (.iow8CylMsb v)) ∧
    (∀ s : State, Live s →
      exec .ior8SectorNumber s = .next { s with rdata := s.sel.sectorNumber.setWidth 32 } ∧
        exec .ior8CylLsb s = .next { s with rdata := (s.sel.cylinder.extractLsb' 0 8).setWidth 32 } ∧
        exec .ior8CylMsb s = .next { s with rdata := (s.sel.cylinder.extractLsb' 8 8).setWidth 32 }) ∧
    (∀ (s : State) (v : Byte), Accepting s →
      exec (.iow8SectorNumber v) s = .next (s.withDrive { s.sel with sectorNumber := v }) ∧
        exec (.iow8CylLsb v) s =
          .next (s.withDrive { s.sel with cylinder := s.sel.cylinder.extractLsb' 8 8 ++ v }) ∧
        exec (.iow8CylMsb v) s =
          .next (s.withDrive { s.sel with cylinder := v ++ s.sel.cylinder.extractLsb' 0 8 })) ∧
    (∀ s : State, Accepting s →
      ∃ t, exec (.iow8CylLsb 0x00) s = .next t ∧
        exec (.iow8CylMsb 0x08) t = .next (s.withDrive { s.sel with cylinder := 2048 }))

/-- SECTOR_COUNT with its other name INTR_REASON, FEATURE, and the read of DRIVE_HEAD (40_register_access.md R141,
R142, R147; 10_state.md R26, R27, R30): the one element is read and written whatever the protocol; a FEATURE write
is not read back; a head kept in its slot reads with the slot's number in bit 4. -/
def Obligations.CountFeatureAndHeadRegisters : Prop :=
  (∀ s : State, Live s →
    exec .ior8SectorCount s = .next { s with rdata := s.sel.sectorCount.setWidth 32 } ∧
      exec .ior8DriveHead s = .next { s with rdata := s.sel.head.setWidth 32 }) ∧
    (∀ (s : State) (v : Byte), Accepting s →
      exec (.iow8SectorCount v) s = .next (s.withDrive { s.sel with sectorCount := v }) ∧
        exec (.iow8Feature v) s = .next (s.withDrive { s.sel with feature := v })) ∧
    (∀ (s : State) (v : Byte), Accepting s →
      exec .ior8Error (s.withDrive { s.sel with feature := v }) =
        .next { s.withDrive { s.sel with feature := v } with rdata := s.sel.error.setWidth 32 }) ∧
    ∀ s : State, Live s → driveSelected s.sel.head = s.selectedDrive →
      ∃ t, exec .ior8DriveHead s = .next t ∧ t.rdata.getLsbD 4 = decide (s.selectedDrive = .slave)

/-- `IOW8 DRIVE_HEAD, v` (40_register_access.md R146): bit 4 selects the drive, the newly selected drive's head holds
the byte, its ERR is cleared and its error is `0x00` if it is installed, else status and error are `0x01` and `0x04`;
no interrupt; the drive selected before keeps all its state. -/
def Obligations.DriveHeadSelects : Prop :=
  (∀ (cx : DecodeContext) (v : Byte), cx.busy = false →
    decode cx .io [0x06, 0x80, 0x01, v] = .ok (.iow8DriveHead v)) ∧
    ∀ (s : State) (v : Byte), Accepting s →
      let d : DriveId := if v.getLsbD 4 = true then .slave else .master
      let x := s.drives.get d
      exec (.iow8DriveHead v) s = .next { s with
        selectedDrive := d
        drives := s.drives.set d
          (if (s.cfg.drives.get d).installed = true then
            { x with head := v, status := x.status &&& 0xFE, error := 0x00 }
           else { x with head := v, status := 0x01, error := 0x04 }) }

/-- `IOR8 STATUS` (40_register_access.md R148): the status, and the interrupt cancelled, on every read: pending or
not, whichever drive is selected, also while BSY is set. -/
def Obligations.StatusReadCancelsInterrupt : Prop :=
  (∀ cx : DecodeContext, decode cx .io [0x07, 0x00, 0x01] = .ok .ior8Status) ∧
    (∀ s : State, Live s →
      exec .ior8Status s = .next { s with
        rdata := s.sel.status.setWidth 32
        irqPending := false
        irqLine := false
        events := .irqCancel :: s.events }) ∧
    (∀ s : State, AcceptingCommand s .ata → interruptGated s = false →
      ∃ t u, exec .identify s = .next t ∧ t.irqPending = true ∧ exec .ior8Status t = .next u ∧
        u.rdata = 0x48 ∧ u.irqPending = false)

/-- `IOW8 COMMAND, v` is the command its byte decodes to (40_register_access.md R149; 41_ata_commands.md R170; a
command row as an instruction is the model's reading, log 14). It completes, with START set too, but for the one form
that evaluates the kick with START set: READ_DMA or WRITE_DMA of an installed ATA drive, not deferred, its range on
the medium (43_busmaster_dma.md R247; KickRunsTheWalk says what that form does). An installed drive keeps the byte in
`d.command`. -/
def Obligations.CommandWriteRunsItsByte : Prop :=
  (∀ (v : Byte) (s : State), exec (.iow8Command v) s = exec (decodeAta v) s) ∧
    ∀ (v : Byte) (s : State), Accepting s →
      ¬(isStart s.bm.command = true ∧ (v = 0xC8 ∨ v = 0xCA) ∧ s.selCfg.installed = true ∧
        s.selCfg.protocol = .ata ∧ s.cfg.defer = false ∧ rangeAddressable s = true) →
      ∃ t, exec (.iow8Command v) s = .next t ∧
        (s.selCfg.installed = true → t.sel.command = v ∧ t.sel.drqPos = 0) ∧
        t.selectedDrive = s.selectedDrive ∧ t.bm = s.bm ∧ t.mem = s.mem ∧ t.walk = s.walk ∧ t.fault = none

/-- `IOW8 OUTPUT, v` (40_register_access.md R151, R152; 70_reset_and_hazards.md R311): without bit 2 the byte is
stored and nothing else; with it every element of both drives and both CD-ROM sub-states takes its reset value but
`outputControl` (the buffer is not mentioned: its content is free, log 2), and the interrupt is cancelled. -/
def Obligations.OutputWriteAndSoftwareReset : Prop :=
  ∀ (s : State) (v : Byte), Accepting s →
    (v.getLsbD 2 = false → exec (.iow8Output v) s = .next (s.withDrive { s.sel with outputControl := v })) ∧
      (v.getLsbD 2 = true →
        ∃ t, exec (.iow8Output v) s = .next t ∧
          t = { s with
            drives := t.drives
            cds := { master := CdRom.reset, slave := CdRom.reset }
            irqPending := false
            irqLine := false
            events := .irqCancel :: s.events
            freeCount := t.freeCount } ∧
          ∀ d : DriveId,
            { t.drives.get d with buffer := [] } =
              { Drive.reset (s.cfg.drives.get d) d with
                buffer := []
                outputControl := if d = s.selectedDrive then v else (s.drives.get d).outputControl })

/-- The width error and the invalid register (40_register_access.md R156, R157; 20_memory.md R74): ERR and `0x04` on
the selected drive, no other effect; the data of a read is free. -/
def Obligations.AccessErrorsSetErr : Prop :=
  ∀ (w : Window) (offset : Byte) (a : Access) (s : State), Live s → (a.isWrite = true → s.slot.op = .idle) →
    let e := s.withDrive { s.sel with status := s.sel.status ||| 0x01, error := 0x04 }
    ∀ i : Instr, i = .widthError w offset a ∨ i = .ctlInvalid offset a →
      ∃ t, exec i s = .next t ∧
        t = { e with
          rdata := if a.isWrite = true then s.rdata else t.rdata
          freeCount := if a.isWrite = true then s.freeCount else t.freeCount }

/-- A write to CMD or CTL while a deferred operation is outstanding is dropped, whatever its offset and size, and so
is a command or a packet it carries; reads decode as they do when nothing is outstanding (40_register_access.md
R155; 70_reset_and_hazards.md R321). That a CTL offset of 8 or more is an access of the block is the model's reading
(log 10), and so is a command or a packet row as an instruction (log 14). -/
def Obligations.BusyWritesAreDropped : Prop :=
  (∀ (i : Instr) (s : State), isRegisterWrite i = true → Live s → s.slot.op ≠ .idle → exec i s = .next s) ∧
    (∀ (w : Window) (offset : Byte) (a : Access) (s : State), Live s → exec (.droppedWrite w offset a) s = .next s) ∧
    (∀ (w : Window) (offset : Byte) (a : Access) (rest : List Input) (s : State),
      (w = .cmd ∧ offset.toNat < 8) ∨ w = .ctl → a.isWrite = true → Live s → s.slot.op ≠ .idle →
        s.inbox = .request .io (ioBytes w offset a) :: rest → step s = .next { s with inbox := rest }) ∧
    ∀ (ch : Channel) (w : Window) (offset : Byte) (a : Access), a.isWrite = false →
      decode { channel := ch, busy := true } .io (ioBytes w offset a) =
        decode { channel := ch, busy := false } .io (ioBytes w offset a)

/-! ## The bus-master registers -/

/-- The plain byte accesses of the bus-master window (43_busmaster_dma.md R240, R241, R243, R245, R246;
30_encoding.md R109). Each read returns its register, BM_STATUS with bit 2 taken from the pending bit, the empty
offset and the other channel's offsets `0x00`, with no side effect. A write of BM_UDMA stores the byte; a write of
byte `j` of BM_PRDPTR stores it and the other 24 bits stay; the empty offset and the other channel's offsets ignore
a write. -/
def Obligations.BusMasterPlainRegisters : Prop :=
  ∀ (s : State) (offset v : Byte) (a : Access), Live s →
    (exec .ior8BmCommand s = .next { s with rdata := s.bm.command.setWidth 32 } ∧
      exec .ior8BmReserved s = .next { s with rdata := 0 } ∧
      exec .ior8BmStatus s =
        .next { s with
          rdata := ((s.bm.status &&& 0xFB#8) ||| (if s.irqPending = true then 0x04#8 else 0x00#8)).setWidth 32 } ∧
      exec .ior8BmUdma s = .next { s with rdata := s.bm.udmaTiming.setWidth 32 } ∧
      exec .ior8BmPrdptr0 s = .next { s with rdata := (s.bm.prdPtr.extractLsb' 0 8).setWidth 32 } ∧
      exec .ior8BmPrdptr1 s = .next { s with rdata := (s.bm.prdPtr.extractLsb' 8 8).setWidth 32 } ∧
      exec .ior8BmPrdptr2 s = .next { s with rdata := (s.bm.prdPtr.extractLsb' 16 8).setWidth 32 } ∧
      exec .ior8BmPrdptr3 s = .next { s with rdata := (s.bm.prdPtr.extractLsb' 24 8).setWidth 32 } ∧
      (a.isWrite = false → exec (.bmOtherChannel offset a) s = .next { s with rdata := 0 })) ∧
    exec (.iow8BmUdma v) s = .next { s with bm := { s.bm with udmaTiming := v } } ∧
    exec (.iow8BmReserved v) s = .next s ∧
    (a.isWrite = true → exec (.bmOtherChannel offset a) s = .next s) ∧
    ∀ (j : Nat) (i : Instr),
      (j = 0 ∧ i = .iow8BmPrdptr0 v) ∨ (j = 1 ∧ i = .iow8BmPrdptr1 v) ∨ (j = 2 ∧ i = .iow8BmPrdptr2 v) ∨
          (j = 3 ∧ i = .iow8BmPrdptr3 v) →
        ∃ t, exec i s = .next t ∧ t = { s with bm := { s.bm with prdPtr := t.bm.prdPtr } } ∧
          ∀ k, k < 4 → t.bm.prdPtr.extractLsb' (8 * k) 8 =
            if k = j then v else s.bm.prdPtr.extractLsb' (8 * k) 8

/-- `IOW8 BM_STATUS, v` (43_busmaster_dma.md R244), bit by bit: ERROR and INTR are cleared by writing 1, bits 6:5
and the blocked bits are storage, every other bit stays. -/
def Obligations.BusMasterStatusWriteBits : Prop :=
  (∀ (cx : DecodeContext) (v : Byte), cx.channel = .primary →
    decode cx .io [0x02, 0xA0, 0x01, v] = .ok (.iow8BmStatus v)) ∧
  (∀ (cx : DecodeContext) (v : Byte), cx.channel = .secondary →
    decode cx .io [0x0A, 0xA0, 0x01, v] = .ok (.iow8BmStatus v)) ∧
  ∀ (s : State) (v : Byte), Live s → s.cfg.iblkMask &&& 0x67 = 0 →
    ∃ t, exec (.iow8BmStatus v) s = .next t ∧
      t = { s with
        bm := { s.bm with status := t.bm.status }
        irqPending := s.irqPending && !v.getLsbD 2
        irqLine := s.irqLine && !v.getLsbD 2
        events := if v.getLsbD 2 = true then .irqCancel :: s.events else s.events } ∧
      ∀ i, i < 8 → t.bm.status.getLsbD i =
        if i = 1 then s.bm.status.getLsbD 1 && !v.getLsbD 1
        else if i = 5 ∨ i = 6 ∨ s.cfg.iblkMask.getLsbD i = true then v.getLsbD i
        else s.bm.status.getLsbD i

/-- `IOW8 BM_COMMAND, v` (43_busmaster_dma.md R242; 30_encoding.md R108): START and RW are stored, a rising START sets
ACTIVE, a falling one clears it, START kept does neither, and nothing else changes, a walk that is running included;
a rising START is said of a drive that does not wait for the engine (KickRunsTheWalk says it of one that does). -/
def Obligations.BusMasterCommandEdges : Prop :=
  ∀ (s : State) (v : Byte), Live s →
    (s.bm.command.getLsbD 0 = false → v.getLsbD 0 = true → s.sel.state ≠ .dmaActive) →
    exec (.iow8BmCommand v) s = .next { s with
      bm := { s.bm with
        command := v &&& 0x09
        status :=
          if s.bm.command.getLsbD 0 = false ∧ v.getLsbD 0 = true then s.bm.status ||| 0x01
          else if s.bm.command.getLsbD 0 = true ∧ v.getLsbD 0 = false then s.bm.status &&& 0xFE
          else s.bm.status } }

/-- A bus-master access of two or four bytes is the byte accesses at ascending offsets, the lowest byte of the data
first, each decoded as a byte access of its own (43_busmaster_dma.md R240, R246). A wide write is its byte writes one
after another; byte `i` of a wide read is what the byte read at the offset `i` further returns, and a read changes
nothing but the data returned. Where no drive waits for the engine every wide access completes and reaches the
bus-master registers, the interrupt and the data returned only; BM_PRDPTR is written and read whole. -/
def Obligations.WideAccessesAreByteAccesses : Prop :=
  ∀ (s : State) (offset : Byte) (a : Access) (v : Word), Live s →
    let byteWrite := fun (k : Nat) (x : Word) (r : State) =>
      exec (decodeBm s.cfg.channel (offset + BitVec.ofNat 8 k) (.w8 (x.extractLsb' (8 * k) 8))) r
    (offset.toNat + 3 < 256 →
      exec (.bmMultibyte offset (.w16 (v.setWidth 16))) s = andThen (byteWrite 0 v s) (byteWrite 1 v) ∧
        exec (.bmMultibyte offset (.w32 v)) s =
          andThen (andThen (andThen (byteWrite 0 v s) (byteWrite 1 v)) (byteWrite 2 v)) (byteWrite 3 v)) ∧
      (a.isWrite = false → offset.toNat + 3 < 256 →
        ∃ t, exec (.bmMultibyte offset a) s = .next t ∧ t = { s with rdata := t.rdata } ∧
          (∀ i, i < a.size → ∃ u, exec (decodeBm s.cfg.channel (offset + BitVec.ofNat 8 i) .r8) s = .next u ∧
            t.rdata.extractLsb' (8 * i) 8 = u.rdata.setWidth 8) ∧
          ∀ i, a.size ≤ i → i < 4 → t.rdata.extractLsb' (8 * i) 8 = 0) ∧
      (s.sel.state ≠ .dmaActive →
        (∃ t, exec (.bmMultibyte offset a) s = .next t ∧
          t = { s with
            bm := if a.isWrite = true then t.bm else s.bm
            irqPending := if a.isWrite = true then t.irqPending else s.irqPending
            irqLine := if a.isWrite = true then t.irqLine else s.irqLine
            events := if a.isWrite = true then t.events else s.events
            rdata := if a.isWrite = true then s.rdata else t.rdata }) ∧
          (offset.toNat = s.cfg.channel.base + 4 →
            exec (.bmMultibyte offset (.w32 v)) s = .next { s with bm := { s.bm with prdPtr := v } } ∧
              exec (.bmMultibyte offset .r32) s = .next { s with rdata := s.bm.prdPtr }))

/-- The configuration alias (40_register_access.md R154; 20_memory.md R63): an access at `P_CFG_BM_BASE + k`, `k` in
0..15, is the bus-master access at offset `k`, of the same direction, size and data; it completes where no drive
waits for the engine. -/
def Obligations.ConfigAliasIsBusMaster : Prop :=
  ∀ (s : State) (offset : Byte) (a : Access) (k : Nat), k < 16 → offset.toNat = s.cfg.cfgBmBase + k →
    exec (.cfgAlias offset a) s = exec (decodeBm s.cfg.channel (BitVec.ofNat 8 k) a) s ∧
      (Live s → s.sel.state ≠ .dmaActive →
        ∃ t, exec (.cfgAlias offset a) s = .next t ∧
          t = { s with
            bm := if a.isWrite = true then t.bm else s.bm
            irqPending := if a.isWrite = true then t.irqPending else s.irqPending
            irqLine := if a.isWrite = true then t.irqLine else s.irqLine
            events := if a.isWrite = true then t.events else s.events
            rdata := if a.isWrite = true then s.rdata else t.rdata })

/-- A configuration access outside the alias is handed to the PCI framework: nothing of the block changes but the
event and, for a read, the data, which is free (20_memory.md R63; the hand-over is the model's choice, log 11). -/
def Obligations.ConfigOutsideAliasIsFramework : Prop :=
  ∀ (s : State) (offset : Byte) (a : Access), Live s →
    (offset.toNat < s.cfg.cfgBmBase ∨ s.cfg.cfgBmBase + 16 ≤ offset.toNat) →
      ∃ t, exec (.cfgAlias offset a) s = .next t ∧
        t = { s with
          events := .framework offset a :: s.events
          rdata := if a.isWrite = true then s.rdata else t.rdata
          freeCount := if a.isWrite = true then s.freeCount else t.freeCount }

/-! ## The data register -/

/-- `IOR16 DATA` inside a unit of an ATA command (40_register_access.md R131; 20_memory.md R68): the item at the
cursor, low byte at the lower position, and the cursor 2 further. -/
def Obligations.DataReadInsideUnit : Prop :=
  ∀ s : State, Live s → s.sel.state = .pioRead → s.sel.status.getLsbD 7 = false → s.sel.command ≠ 0xA0 →
    s.sel.sectorPos + 2 < s.sel.unitSize →
      exec .ior16Data s = .next { s.withDrive { s.sel with sectorPos := s.sel.sectorPos + 2 } with
        rdata := (bufferByte s.sel.buffer (s.sel.sectorPos + 1) ++
          bufferByte s.sel.buffer s.sel.sectorPos).setWidth 32 }

/-- The end of a one-unit data-in command (40_register_access.md R132): the last item leaves the drive ready and
idle with the cursor at 0, and raises nothing. -/
def Obligations.IdentifyDataEnds : Prop :=
  ∀ s : State, Live s → s.sel.state = .pioRead → s.sel.status.getLsbD 7 = false → s.sel.command ≠ 0xA0 →
    s.sel.command ≠ 0x20 → s.sel.unitSize ≤ s.sel.sectorPos + 2 →
      exec .ior16Data s = .next { s.withDrive { s.sel with sectorPos := 0, status := 0x40, state := .idle } with
        rdata := (bufferByte s.sel.buffer (s.sel.sectorPos + 1) ++
          bufferByte s.sel.buffer s.sel.sectorPos).setWidth 32 }

/-- The end of a unit of READ_SECTOR (40_register_access.md R133): the task file advances by one block and the count
by one down; at 0 the command is complete with no interrupt; else the next block is loaded, at once with one
interrupt or an abort, or by the worker. -/
def Obligations.ReadSectorUnitBoundary : Prop :=
  ∀ s : State, Live s → s.sel.state = .pioRead → s.sel.status.getLsbD 7 = false → s.sel.command = 0x20 →
    s.sel.unitSize ≤ s.sel.sectorPos + 2 →
      let x := { incAddress s.selCfg { s.sel with sectorPos := 0 } with sectorCount := s.sel.sectorCount - 1 }
      let m := { s.withDrive x with
        rdata := (bufferByte s.sel.buffer (s.sel.sectorPos + 1) ++
          bufferByte s.sel.buffer s.sel.sectorPos).setWidth 32 }
      let lba := makeLogical s.selCfg x
      let ok := addressOk s.selCfg x = true ∧ lba < s.selCfg.capacity
      let r := readBlockAt lba 512 m
      (s.sel.sectorCount = 1 →
        exec .ior16Data s = .next (m.withDrive { x with status := 0x40, state := .idle })) ∧
      (s.sel.sectorCount ≠ 1 → s.cfg.defer = true →
        ∃ t, exec .ior16Data s = .next t ∧
          t = { m.withDrive { x with status := 0x80 } with
            slot := { op := .read, reg := .cmd, port := 0, data := t.slot.data, size := 2 }
            freeCount := t.freeCount }) ∧
      (s.sel.sectorCount ≠ 1 → s.cfg.defer = false → ¬ok →
        exec .ior16Data s = .next (raiseError .abort m)) ∧
      (s.sel.sectorCount ≠ 1 → s.cfg.defer = false → ok → r.2 = none →
        exec .ior16Data s = .next (raiseError .abort r.1)) ∧
      ∀ bs, s.sel.sectorCount ≠ 1 → s.cfg.defer = false → ok → r.2 = some bs →
        exec .ior16Data s = .next (raiseInterrupt (r.1.withDrive
          { x with
            buffer := bufferPut s.cfg.maxBlock s.sel.buffer 0 bs
            sectorPos := 0
            unitSize := 512
            status := 0x48 }))

/-- The boundaries of a packet command's data (40_register_access.md R131, R134): the counters move by 2; with
nothing left the command completes, the cursor back at 0 if it has reached the unit's end (10_state.md R36; log 17);
at the end of the buffer the next sector is loaded, or the command aborts; at the end of the promised data block the
next one is announced with one interrupt. -/
def Obligations.PacketDataBoundary : Prop :=
  ∀ s : State, Live s → s.sel.state = .pioRead → s.sel.status.getLsbD 7 = false → s.sel.command = 0xA0 →
    let left := s.selCd.remainingBytes - 2
    let x := { s.sel with sectorPos := s.sel.sectorPos + 2, drqPos := s.sel.drqPos + 2 }
    let m := { (s.withDrive x).withCd { s.selCd with remainingBytes := left } with
      rdata := (bufferByte s.sel.buffer (s.sel.sectorPos + 1) ++
        bufferByte s.sel.buffer s.sel.sectorPos).setWidth 32 }
    let r := readBlockAt s.selCd.nextLba.toNat s.selCd.sectorSize m
    let announce := fun (u : State) =>
      if s.sel.cylinder.toNat ≤ s.sel.drqPos + 2 then
        raiseInterrupt (u.withDrive
          { u.sel with drqPos := 0, cylinder := BitVec.ofNat 16 (min s.sel.cylinder.toNat left) })
      else u
    (left = 0 →
      exec .ior16Data s = .next (raiseInterrupt (m.withDrive
        { x with
          sectorPos := if s.sel.unitSize ≤ s.sel.sectorPos + 2 then 0 else s.sel.sectorPos + 2
          error := 0x00, sectorCount := 0x03, status := 0x40, state := .idle }))) ∧
    (left ≠ 0 → s.sel.sectorPos + 2 < s.sel.unitSize → exec .ior16Data s = .next (announce m)) ∧
    (left ≠ 0 → s.sel.unitSize ≤ s.sel.sectorPos + 2 → r.2 = none →
      exec .ior16Data s = .next (raiseError .abort r.1)) ∧
    ∀ bs, left ≠ 0 → s.sel.unitSize ≤ s.sel.sectorPos + 2 → r.2 = some bs →
      exec .ior16Data s = .next (announce
        ((r.1.withDrive
          { x with
            buffer := bufferPut s.cfg.maxBlock s.sel.buffer 0 bs
            sectorPos := 0
            unitSize := s.selCd.sectorSize }).withCd
          { s.selCd with
            remainingBytes := left
            nextLba := s.selCd.nextLba + 1
            remainingSectors := s.selCd.remainingSectors - 1 }))

/-- DATA with no data phase of the right direction open (40_register_access.md R139): a write is ignored; a read
changes nothing but the data returned, which is free. -/
def Obligations.ClosedDataRegister : Prop :=
  (∀ s : State, Live s → ¬(s.sel.state = .pioRead ∧ s.sel.status.getLsbD 7 = false) →
    ∃ t, exec .ior16Data s = .next t ∧ t = { s with rdata := t.rdata, freeCount := t.freeCount }) ∧
    ∀ (s : State) (v : Half), Live s →
      ¬((s.sel.state = .pioWrite ∨ s.sel.state = .packetReceive) ∧ s.sel.status.getLsbD 7 = false) →
        exec (.iow16Data v) s = .next s

/-- `IOW16 DATA, v` inside a unit (40_register_access.md R135; 20_memory.md R68): the two bytes at the cursor, low
byte first, the cursor 2 further, every other buffer byte as before. -/
def Obligations.DataWriteInsideUnit : Prop :=
  ∀ (s : State) (v : Half), Accepting s → s.sel.state = .pioWrite ∨ s.sel.state = .packetReceive →
    s.sel.status.getLsbD 7 = false → s.sel.sectorPos + 2 < s.sel.unitSize →
      ∃ t, exec (.iow16Data v) s = .next t ∧
        t = s.withDrive { s.sel with buffer := t.sel.buffer, sectorPos := s.sel.sectorPos + 2 } ∧
        (s.sel.sectorPos + 2 ≤ s.cfg.maxBlock →
          ∀ p, p < s.cfg.maxBlock → bufferByte t.sel.buffer p =
            if p = s.sel.sectorPos then v.extractLsb' 0 8
            else if p = s.sel.sectorPos + 1 then v.extractLsb' 8 8
            else bufferByte s.sel.buffer p)

/-- Six DATA writes that carry any twelve bytes store them as they are sent and hand the packet to the dispatcher
(40_register_access.md R135, R136; 42_atapi_packet.md R201; 30_encoding.md R115). Bytes and bits no field names are
ignored (30_encoding.md R117, R122): in every state the packet does what the packet with its fields and with 0
elsewhere does. An unknown opcode, whatever its other bytes, is an invalid field (42_atapi_packet.md R204). The writes
that carry the packet a row stands for run the row's instruction: a packet row as an instruction is the model's
reading (log 14), and so are the zeros of its packet where no field stands (log 26). -/
def Obligations.SixWordsRunThePacket : Prop :=
  let word := fun (b : List Byte) (k : Nat) => exec (.iow16Data (b.getD (2 * k + 1) 0 ++ b.getD (2 * k) 0))
  let sixWords := fun (b : List Byte) (s : State) =>
    andThen (andThen (andThen (andThen (andThen (word b 0 s) (word b 1)) (word b 2)) (word b 3)) (word b 4)) (word b 5)
  let dispatch := fun (b : List Byte) => dispatchPacket (b.getD 0 0) (b.getD 1 0) (b.getD 2 0) (b.getD 3 0)
    (b.getD 4 0) (b.getD 5 0) (b.getD 6 0) (b.getD 7 0) (b.getD 8 0) (b.getD 9 0) (b.getD 10 0)
  (∀ (b : List Byte) (s : State), b.length = 12 → AwaitingPacket s →
    s.sel.sectorPos = 0 → s.sel.unitSize = 12 → 12 ≤ s.cfg.maxBlock →
      sixWords b s = dispatch b (packetReceived b s) ∧
        (b.getD 0 0 ∉ [0x03#8, 0x12#8, 0x1A#8, 0x28#8, 0x43#8, 0x5A#8, 0xA8#8, 0xAD#8, 0xBE#8] →
          sixWords b s = .next (raiseError (.atapi 0x5 0x24) (packetReceived b s)))) ∧
    (∀ (cx : DecodeContext) (b : List Byte) (i : Instr) (u : State),
      decode cx .pkt b = .ok i → dispatch b u = dispatch (encodePacket i) u) ∧
    ∀ (ch : Channel) (i : Instr) (s : State), i.wellFormed ch = true → (encode ch i).1 = .pkt → AwaitingPacket s →
      s.sel.sectorPos = 0 → s.sel.unitSize = 12 → 12 ≤ s.cfg.maxBlock →
        sixWords (encode ch i).2 s = exec i s

/-- The end of a unit of WRITE_SECTOR (40_register_access.md R137): the unit goes to the device, or the command
aborts; the task file advances; the count goes down; one interrupt; at 0 the drive is ready and idle. -/
def Obligations.WriteSectorUnitBoundary : Prop :=
  ∀ (s : State) (v : Half), Accepting s → s.sel.state = .pioWrite → s.sel.status.getLsbD 7 = false →
    s.sel.unitSize ≤ s.sel.sectorPos + 2 →
      let x := { s.sel with
        buffer := bufferPut s.cfg.maxBlock s.sel.buffer s.sel.sectorPos [v.extractLsb' 0 8, v.extractLsb' 8 8]
        sectorPos := 0 }
      let lba := makeLogical s.selCfg s.sel
      let ok := addressOk s.selCfg s.sel = true ∧ lba < s.selCfg.capacity
      let r := writeBlockAt lba (bufferSlice x.buffer 0 512) (s.withDrive x)
      let y := { incAddress s.selCfg x with sectorCount := s.sel.sectorCount - 1 }
      (¬ok → exec (.iow16Data v) s = .next (raiseError .abort (s.withDrive x))) ∧
      (ok → r.2 = false → exec (.iow16Data v) s = .next (raiseError .abort r.1)) ∧
      (ok → r.2 = true →
        exec (.iow16Data v) s = .next (raiseInterrupt (r.1.withDrive
          (if s.sel.sectorCount = 1 then { y with status := 0x40, state := .idle } else y))))

/-! ## The ATA commands -/

/-- STANDBY_IMMEDIATE and SLEEP (41_ata_commands.md R186, R187): error `0x00`, status `0x40`, idle, one interrupt;
the next command is accepted as usual. -/
def Obligations.StandbyAndSleepComplete : Prop :=
  ∀ s : State, Accepting s → s.selCfg.installed = true →
    (let t := raiseInterrupt (s.withDrive { s.sel with
        command := 0xE0, sectorPos := 0, drqPos := 0, error := 0x00, status := 0x40, state := .idle })
     decodeAta 0xE0 = .standbyImmediate ∧ exec .standbyImmediate s = .next t ∧ Accepting t) ∧
    (let t := raiseInterrupt (s.withDrive { s.sel with
        command := 0xE6, sectorPos := 0, drqPos := 0, error := 0x00, status := 0x40, state := .idle })
     decodeAta 0xE6 = .sleep ∧ exec .sleep s = .next t ∧ Accepting t)

/-- FLUSH_CACHE and SET_FEATURES (41_ata_commands.md R184, R185): the first makes three device calls and completes;
the second completes if the sub-code is supported, else it aborts. -/
def Obligations.FlushAndSetFeatures : Prop :=
  ∀ s : State, Accepting s → s.selCfg.installed = true →
    exec .flushCache s = .next (raiseInterrupt
      { s.withDrive { s.sel with
          command := 0xE7, sectorPos := 0, drqPos := 0, error := 0x00, status := 0x40, state := .idle } with
        locks := s.locks.set s.selectedDrive false
        events := .device s.selectedDrive .release :: .device s.selectedDrive .flush ::
          .device s.selectedDrive .acquire :: s.events }) ∧
      (s.sel.feature ∈ s.cfg.features →
        exec .setFeatures s = .next (raiseInterrupt (s.withDrive { s.sel with
          command := 0xEF, sectorPos := 0, drqPos := 0, error := 0x00, status := 0x40, state := .idle }))) ∧
      (s.sel.feature ∉ s.cfg.features →
        exec .setFeatures s = .next (raiseInterrupt (s.withDrive { s.sel with
          command := 0xEF, sectorPos := 0, drqPos := 0, error := 0x04, status := 0x41, state := .idle })))

/-- IDENTIFY and IDENTIFY_PACKET (41_ata_commands.md R177, R178; 20_memory.md R70): the identify block in the
buffer, word `i` at position `2i`, the read phase open, one interrupt, the task file untouched. -/
def Obligations.IdentifyLoadsBlock : Prop :=
  ∀ (s : State) (v : Byte) (i : Instr) (p : Protocol),
    (v = 0xEC ∧ i = .identify ∧ p = .ata) ∨ (v = 0xA1 ∧ i = .identifyPacket ∧ p = .atapi) →
      AcceptingCommand s p →
        ∃ t, exec i s = .next t ∧
          t = raiseInterrupt (s.withDrive { s.sel with
            command := v, sectorPos := 0, drqPos := 0, buffer := t.sel.buffer, unitSize := 512
            error := 0x00, status := 0x48, state := .pioRead }) ∧
          (512 ≤ s.cfg.maxBlock →
            ∀ k, k < 256 → bufferByte t.sel.buffer (2 * k + 1) ++ bufferByte t.sel.buffer (2 * k) =
              s.selCfg.identifyWord k)

/-- READ_SECTOR without deferral (41_ata_commands.md R174, R175, R179): the addressed block in the buffer, the read
phase open, one interrupt; or an abort. -/
def Obligations.ReadSectorLoadsUnit : Prop :=
  ∀ s : State, AcceptingCommand s .ata → s.cfg.defer = false →
    let x := { s.sel with command := 0x20, sectorPos := 0, drqPos := 0 }
    let lba := makeLogical s.selCfg s.sel
    let ok := addressOk s.selCfg s.sel = true ∧ lba < s.selCfg.capacity
    let r := readBlockAt lba 512 (s.withDrive x)
    (¬ok → exec .readSector s = .next (raiseError .abort (s.withDrive x))) ∧
      (ok → r.2 = none → exec .readSector s = .next (raiseError .abort r.1)) ∧
      ∀ bs, ok → r.2 = some bs →
        exec .readSector s = .next (raiseInterrupt (r.1.withDrive
          { x with
            buffer := bufferPut s.cfg.maxBlock s.sel.buffer 0 bs
            unitSize := 512, error := 0x00, status := 0x48, state := .pioRead }))

/-- WRITE_SECTOR without deferral (41_ata_commands.md R180): the write phase open with no interrupt and no device
call; or an abort. -/
def Obligations.WriteSectorOpensPhase : Prop :=
  ∀ s : State, AcceptingCommand s .ata → s.cfg.defer = false →
    let x := { s.sel with command := 0x30, sectorPos := 0, drqPos := 0 }
    let ok := addressOk s.selCfg s.sel = true ∧ makeLogical s.selCfg s.sel < s.selCfg.capacity
    (ok → exec .writeSector s = .next (s.withDrive
      { x with unitSize := 512, error := 0x00, status := 0x48, state := .pioWrite })) ∧
      (¬ok → exec .writeSector s = .next (raiseError .abort (s.withDrive x)))

/-- READ_DMA and WRITE_DMA without deferral (41_ata_commands.md R181, R182; 30_encoding.md R107): the whole range is
checked first, and a range that is not on the medium aborts, whatever START is; else the cursor and the count are set,
the device is positioned and, with START clear, the drive waits in `DMA_ACTIVE` with no interrupt (KickRunsTheWalk
says what follows with START set). -/
def Obligations.DmaCommandsArm : Prop :=
  ∀ (s : State) (v : Byte) (i : Instr), (v = 0xC8 ∧ i = .readDma) ∨ (v = 0xCA ∧ i = .writeDma) →
    AcceptingCommand s .ata → s.cfg.defer = false →
      let x := { s.sel with command := v, sectorPos := 0, drqPos := 0 }
      let lba := makeLogical s.selCfg s.sel
      let n := if s.sel.sectorCount = 0 then 256 else s.sel.sectorCount.toNat
      let ok := addressOk s.selCfg s.sel = true ∧ lba + n ≤ s.selCfg.capacity
      (ok → isStart s.bm.command = false → exec i s = .next { s.withDrive
          { x with
            dmaLbaStart := BitVec.ofNat 32 lba, dmaLbaCount := n, unitSize := 512
            error := 0x00, status := 0x48, state := .dmaActive } with
          locks := s.locks.set s.selectedDrive false
          devices := s.devices.set s.selectedDrive { s.selDevice with position := lba }
          events := .device s.selectedDrive .release :: .device s.selectedDrive (.seek lba) ::
            .device s.selectedDrive .acquire :: s.events }) ∧
        (¬ok → exec i s = .next (raiseError .abort (s.withDrive x)))

/-- The deferral of the four commands (41_ata_commands.md R171): BSY alone and the descriptor `{WRITE, CMD, 7, v, 1}`,
the protocol state as it was. -/
def Obligations.DeferredCommandsAreHandedOver : Prop :=
  ∀ (s : State) (v : Byte) (i : Instr),
    (v = 0x20 ∧ i = .readSector) ∨ (v = 0x30 ∧ i = .writeSector) ∨ (v = 0xC8 ∧ i = .readDma) ∨
        (v = 0xCA ∧ i = .writeDma) →
      AcceptingCommand s .ata → s.cfg.defer = true →
        exec i s = .next { s.withDrive { s.sel with
            command := v, sectorPos := 0, drqPos := 0, status := 0x80 } with
          slot := { op := .write, reg := .cmd, port := 7, data := v.setWidth 32, size := 1 } }

/-- A deferred operation and the worker's turns end in the state the immediate operation ends in, but for the
parameter and the mailbox (41_ata_commands.md R171: "execution of the same operation"; 60_exceptions.md R295). The
four commands, a DMA command with START clear, take one turn; so does the continue-sector load at the end of a unit
of READ_SECTOR (40_register_access.md R133); a DMA command with START set leaves its walk to the next turns; a walk
handed over ends, turn by turn, in the state of the whole walk with the slot freed. What the mailbox fields other
than `op` hold once it is IDLE, the count of the free values, and `pending` between a deferred command and its walk's
set-up, are the model's choice (logs 3, 6 and 16). -/
def Obligations.DeferredEqualsImmediate : Prop :=
  (∀ (s : State) (v : Byte) (i : Instr),
    (v = 0x20 ∧ i = .readSector) ∨ (v = 0x30 ∧ i = .writeSector) ∨
        (isStart s.bm.command = false ∧ ((v = 0xC8 ∧ i = .readDma) ∨ (v = 0xCA ∧ i = .writeDma))) →
      AcceptingCommand s .ata → s.walk = .idle →
      ∀ t, exec i { s with cfg := { s.cfg with defer := false } } = .next t →
        ∃ m, exec i { s with cfg := { s.cfg with defer := true } } = .next m ∧
          m.sel.status = 0x80 ∧ m.slot.op = .write ∧
          workerStep m = .next { t with
            cfg := { s.cfg with defer := true }
            slot := { op := .idle, reg := .cmd, port := 7, data := v.setWidth 32, size := 1 } }) ∧
    (∀ s : State, Accepting s → s.walk = .idle → s.sel.state = .pioRead → s.sel.status.getLsbD 7 = false →
      s.sel.command = 0x20 → s.sel.unitSize ≤ s.sel.sectorPos + 2 → s.sel.sectorCount ≠ 1 →
      ∀ t, exec .ior16Data { s with cfg := { s.cfg with defer := false } } = .next t →
        ∃ m, exec .ior16Data { s with cfg := { s.cfg with defer := true } } = .next m ∧
          m.sel.status = 0x80 ∧ m.slot.op = .read ∧ m.rdata = t.rdata ∧
          workerStep m = .next { t with
            cfg := { s.cfg with defer := true }
            slot := { op := .idle, reg := .cmd, port := 0, data := m.slot.data, size := 2 }
            freeCount := m.freeCount }) ∧
    (∀ (s : State) (v : Byte) (i : Instr), (v = 0xC8 ∧ i = .readDma) ∨ (v = 0xCA ∧ i = .writeDma) →
      AcceptingCommand s .ata → s.cfg.defer = true → s.walk = .idle → isStart s.bm.command = true →
        rangeAddressable s = true → (s.bm.command.getLsbD 3 = true ↔ v = 0xC8) →
          ∃ m, exec i s = .next m ∧
            workerStep m = .next { (armDma m).withDrive { (armDma m).sel with status := 0x80 } with walk := .pending }) ∧
    ∀ s : State, Live s → WalkHandedOver s → (s.bm.command.getLsbD 3 = true ↔ s.sel.command ≠ 0xCA) →
      0 < s.sel.unitSize →
        ∃ n, workerTurns n s = .next { wholeWalk s with slot := { s.slot with op := .idle } }

/-- PACKET (41_ata_commands.md R183): the drive waits for twelve bytes, the DMA flag is FEATURE bit 0, no
interrupt, never deferred, the sense data untouched. -/
def Obligations.PacketCommandArms : Prop :=
  decodeAta 0xA0 = .packet ∧
    ∀ s : State, AcceptingCommand s .atapi →
      exec .packet s = .next ((s.withCd { s.selCd with dma := s.sel.feature.getLsbD 0 }).withDrive { s.sel with
        command := 0xA0, drqPos := 0, sectorCount := 0x01, error := 0x00, sectorPos := 0, unitSize := 12
        status := 0x48, state := .packetReceive })

/-- Commands that do not execute (41_ata_commands.md R172, R188, R189): a wrong protocol and an unknown byte abort
with one interrupt and keep the byte; on an uninstalled drive every byte gives `0x01` and `0x04` and nothing else. -/
def Obligations.RefusedCommandsAbort : Prop :=
  ∀ s : State, Accepting s →
    (s.selCfg.installed = true → ∀ v : Byte,
      (s.selCfg.protocol = .ata ∧ v ∈ [0xA0#8, 0xA1#8]) ∨
          (s.selCfg.protocol = .atapi ∧ v ∈ [0xEC#8, 0x20#8, 0x30#8, 0xC8#8, 0xCA#8]) ∨ v ∉ ataOpcodes →
        exec (decodeAta v) s = .next (raiseInterrupt (s.withDrive { s.sel with
          command := v, drqPos := 0, status := 0x41, error := 0x04, state := .idle, sectorPos := 0 }))) ∧
      (s.selCfg.installed = false → ∀ v : Byte,
        exec (decodeAta v) s = .next (s.withDrive { s.sel with status := 0x01, error := 0x04 })) ∧
      (s.selCfg.installed = true → ∀ v : Byte, exec (.ataUnknown v) s =
        .next (raiseInterrupt (s.withDrive { s.sel with
          command := v, drqPos := 0, status := 0x41, error := 0x04, state := .idle, sectorPos := 0 })))

/-! ## The packet commands -/

/-- The byte-count clipping and the start of the data phase (42_atapi_packet.md R202, R214): the odd adjustment, the
zero test, the clamp, then nothing to send or the first data block with one interrupt. -/
def Obligations.ByteCountClipping : Prop :=
  ∀ (s : State) (reqlen alloclen unit : Nat),
    let n := s.sel.cylinder.toNat
    let n1 := if n % 2 = 1 ∧ ¬alloclen ≤ n then n - 1 else n
    let declared := min reqlen alloclen
    let cd := { s.selCd with declared := declared, remainingBytes := declared }
    (n1 = 0 → atapiStartSend reqlen alloclen unit s =
      { s.withDrive { s.sel with cylinder := 0 } with fault := some .byteCountZero }) ∧
      (n1 ≠ 0 → declared = 0 → atapiStartSend reqlen alloclen unit s =
        raiseInterrupt ((s.withCd cd).withDrive { s.sel with
          cylinder := 0, error := 0x00, sectorCount := 0x03, status := 0x40, state := .idle })) ∧
      (n1 ≠ 0 → declared ≠ 0 → atapiStartSend reqlen alloclen unit s =
        raiseInterrupt ((s.withCd cd).withDrive { s.sel with
          cylinder := BitVec.ofNat 16 (min n1 (min reqlen alloclen))
          sectorCount := 0x02, error := 0x00, sectorPos := 0, drqPos := 0, unitSize := unit
          status := 0x48, state := .pioRead }))

/-- The fixed-payload packets (42_atapi_packet.md R205 to R210, R218, R219; 30_encoding.md R120): each sends its
payload, zero-padded to an even length, through the clipping with its allocation length; a request its parameter
does not define is an invalid field. That the default table of contents asks the device for its capacity only where
it defines the request is the model's choice (log 22); what it gives for a medium of 2^32 blocks or more is free
(log 23). -/
def Obligations.FixedPayloadPackets : Prop :=
  ∀ s : State, AwaitingPacket s →
    let send := fun (bs : List Byte) (alloclen : Nat) (u : State) =>
      atapiStartSend bs.length alloclen (bs.length + bs.length % 2)
        (u.putBuffer 0 (bs ++ List.replicate (bs.length % 2) 0x00))
    let answer := fun (p : Option (List Byte)) (alloclen : Nat) (u : State) =>
      match p with
      | some bs => send bs alloclen u
      | none => raiseError (.atapi 0x5 0x24) u
    let received := fun (i : Instr) => packetReceived (encodePacket i) s
    let isReady := fun (u : State) => u.emit (.device s.selectedDrive .isReady)
    (∀ alloc : Byte,
      exec (.requestSense alloc) s =
        .next (send
          [0x70, 0, 0#4 ++ s.selCd.senseKey, 0, 0, 0, 0, 0x0A, 0, 0, 0, 0, s.selCd.asc, s.selCd.ascq, 0, 0, 0, 0]
          alloc.toNat (received (.requestSense alloc)))) ∧
    (∀ alloc : Byte,
      exec (.inquiry alloc) s = .next (send s.selCfg.inquiry alloc.toNat (received (.inquiry alloc)))) ∧
    (∀ (pc : BitVec 2) (page : BitVec 6) (alloc : Byte),
      exec (.modeSense6 pc page alloc) s =
        .next (answer (s.selCfg.modeSense6.lookup (pc, page)) alloc.toNat (received (.modeSense6 pc page alloc)))) ∧
    (∀ (pc : BitVec 2) (page : BitVec 6) (alloc : Half),
      exec (.modeSense10 pc page alloc) s =
        .next
          (answer (s.selCfg.modeSense10.lookup (pc, page)) alloc.toNat (received (.modeSense10 pc page alloc)))) ∧
    (s.selDevice.ready = true →
      (∀ (msf : Bool) (format : BitVec 4) (track : Byte) (alloc : Half) (rows : _),
        s.selCfg.toc = .table rows →
          exec (.readToc msf format track alloc) s =
            .next (answer (rows.lookup (msf, format, track)) alloc.toNat
              (isReady (received (.readToc msf format track alloc))))) ∧
      (∀ (msf : Bool) (format : BitVec 4) (track : Byte) (alloc : Half),
        s.selCfg.toc = .singleTrack →
          exec (.readToc msf format track alloc) s =
            .next (if format = 0 ∧ msf = false ∧ track.toNat ≤ 1 then
              send (singleTrackToc s.selDevice.capacity) alloc.toNat
                ((isReady (received (.readToc msf format track alloc))).emit (.device s.selectedDrive .getCapacity))
            else raiseError (.atapi 0x5 0x24) (isReady (received (.readToc msf format track alloc))))) ∧
      ∀ (address : Word) (layer format : Byte) (alloc : Half),
        exec (.readDvdStructure address layer format alloc) s =
          .next (answer (s.selCfg.dvdStruct.lookup (format, layer, address)) alloc.toNat
            (isReady (received (.readDvdStructure address layer format alloc)))))

/-- The packet commands that end without data (42_atapi_packet.md R203, R204, R211, R212, R213, R218;
60_exceptions.md R272): an error ends with the sense triple in the sub-state, the key in the error register, `0x41`,
reason `0x03` and one interrupt; a length of 0, and a READ_CD that asks for no data, complete at once. -/
def Obligations.PacketsWithoutData : Prop :=
  ∀ s : State, AwaitingPacket s →
    let failed := fun (key : BitVec 4) (asc : Byte) (u : State) =>
      raiseInterrupt ((u.withCd { u.selCd with senseKey := key, asc := asc, ascq := 0x00 }).withDrive { u.sel with
        error := key ++ 0#4, status := 0x41, sectorCount := 0x03, state := .idle, sectorPos := 0 })
    let received := fun (i : Instr) => packetReceived (encodePacket i) s
    let isReady := fun (u : State) => u.emit (.device s.selectedDrive .isReady)
    let getCapacity := fun (u : State) => u.emit (.device s.selectedDrive .getCapacity)
    let done := fun (u : State) =>
      raiseInterrupt (u.withDrive
        { u.sel with error := 0x00, sectorCount := 0x03, status := 0x40, state := .idle })
    (∀ op : Byte, exec (.pktUnknown op) s = .next (failed 0x5 0x24 (received (.pktUnknown op)))) ∧
    (∀ i : Instr, touchesMedium i = true → s.selDevice.ready = false →
      exec i s = .next (failed 0x2 0x3A (isReady (received i)))) ∧
    (∀ (i : Instr) (lba : Word) (len ss : Nat), streamRequest i = some (lba, len, ss) → s.selDevice.ready = true →
      len ≠ 0 → s.selDevice.capacity < lba.toNat + len →
        exec i s = .next (failed 0x5 0x21 (getCapacity (isReady (received i))))) ∧
    (∀ (i : Instr) (lba : Word) (ss : Nat), streamRequest i = some (lba, 0, ss) → s.selDevice.ready = true →
      exec i s = .next (done (isReady (received i)))) ∧
    ∀ (lba : Word) (len : BitVec 24) (sub : Byte) (subch : BitVec 3), s.selDevice.ready = true →
      let i := Instr.readCd lba len sub subch
      (subch = 0 → sub &&& 0xF8 = 0x00 → exec i s = .next (done (isReady (received i)))) ∧
      (subch = 0 → sub &&& 0xF8 ∉ [0x00#8, 0x10#8, 0xF8#8] → sub.getLsbD 3 = false →
        exec i s = .next (failed 0x5 0x24 (isReady (received i)))) ∧
      (subch ≠ 0 ∨ (sub &&& 0xF8 ∉ [0x00#8, 0x10#8, 0xF8#8] ∧ sub.getLsbD 3 = true) →
        exec i s = .next (if s.cfg.fatalStubs = true then { isReady (received i) with fault := some .unimplemented }
          else failed 0x5 0x24 (isReady (received i))))

/-- READ_10, READ_12 and READ_CD over PIO (42_atapi_packet.md R211, R212, R216, R217): the cursor is recorded, the
first sector is loaded and its data phase opens through the clipping; a SHORT answer aborts (that it leaves the
device's position is the model's choice, log 7). -/
def Obligations.StreamedReadOverPio : Prop :=
  ∀ (s : State) (i : Instr) (lba : Word) (len ss : Nat), AwaitingPacket s → streamRequest i = some (lba, len, ss) →
    s.selDevice.ready = true → s.selCd.dma = false → len ≠ 0 → lba.toNat + len ≤ s.selDevice.capacity →
      let u := packetReceived (encodePacket i) s
      let calls := fun (c : DeviceCall) => Event.device s.selectedDrive c
      let short := s.selDevice.shorts.headD false
      let cd := { s.selCd with sectorSize := ss, nextLba := lba, remainingSectors := BitVec.ofNat 32 len }
      let v := { u with
        locks := s.locks.set s.selectedDrive false
        cds := s.cds.set s.selectedDrive cd
        devices := s.devices.set s.selectedDrive { s.selDevice with
          blockSize := ss
          position := if short = true then lba.toNat else lba.toNat + 1
          shorts := s.selDevice.shorts.tail }
        events := calls .release :: calls (.readBlock ss) :: calls (.seek lba.toNat) :: calls .acquire ::
          calls (.setMode ss) :: calls .getCapacity :: calls .isReady :: s.events }
      (short = true → exec i s = .next (raiseError .abort v)) ∧
        (short = false → exec i s = .next (atapiStartSend (len * ss) (len * ss) ss
          ((v.withCd { cd with nextLba := lba + 1, remainingSectors := BitVec.ofNat 32 len - 1 }).withDrive
            { u.sel with
              buffer := bufferPut s.cfg.maxBlock u.sel.buffer 0
                (blockContent s.selectedDrive s.selDevice lba.toNat ss)
              sectorPos := 0
              unitSize := ss })))

/-- READ_10, READ_12 and READ_CD over DMA (42_atapi_packet.md R217; 43_busmaster_dma.md R247): the drive is armed, the
byte count neither read nor clipped, no interrupt. With START clear it waits in `DMA_ACTIVE`; with START set the walk
runs inside the access, or, with deferral, BSY and the descriptor `{WRITE, CMD, 0, v, 2}` of the last packet word
hand it to the worker; a walk against the command's direction is refused, the model's treatment of U3 (log 13). -/
def Obligations.StreamedReadOverDma : Prop :=
  ∀ (s : State) (i : Instr) (lba : Word) (len ss : Nat), AwaitingPacket s → streamRequest i = some (lba, len, ss) →
    s.selDevice.ready = true → s.selCd.dma = true → len ≠ 0 → lba.toNat + len ≤ s.selDevice.capacity →
      let u := packetReceived (encodePacket i) s
      let calls := fun (c : DeviceCall) => Event.device s.selectedDrive c
      let armed := { u.withDrive { u.sel with
          unitSize := ss, sectorPos := 0, sectorCount := 0x02, error := 0x00, status := 0x48
          state := .dmaActive } with
        locks := s.locks.set s.selectedDrive false
        cds := s.cds.set s.selectedDrive { s.selCd with
          sectorSize := ss, nextLba := lba, remainingSectors := BitVec.ofNat 32 len
          declared := len * ss, remainingBytes := len * ss }
        devices := s.devices.set s.selectedDrive { s.selDevice with blockSize := ss, position := lba.toNat }
        events := calls .release :: calls (.seek lba.toNat) :: calls .acquire ::
          calls (.setMode ss) :: calls .getCapacity :: calls .isReady :: s.events }
      let agrees := s.bm.command.getLsbD 3 = true ↔ s.sel.command ≠ 0xCA
      let lastWord : Half := (encodePacket i).getD 11 0 ++ (encodePacket i).getD 10 0
      (isStart s.bm.command = false → exec i s = .next armed) ∧
        (isStart s.bm.command = true → s.cfg.defer = false → agrees → exec i s = .next (wholeWalk armed)) ∧
        (isStart s.bm.command = true → s.cfg.defer = true → agrees → 12 ≤ s.cfg.maxBlock →
          exec i s = .next { armed.withDrive { armed.sel with status := 0x80 } with
            slot := { op := .write, reg := .cmd, port := 0, data := lastWord.setWidth 32, size := 2 } }) ∧
        (isStart s.bm.command = true → ¬agrees → exec i s = .refused .directionMismatch)

/-! ## Errors and interrupts -/

/-- `raiseInterrupt` (60_exceptions.md R280): the pending bit, the line and one event, unless nIEN of the drive or
the blocked bit gates it, and then nothing at all. -/
def Obligations.RaiseInterruptGates : Prop :=
  ∀ s : State, raiseInterrupt s =
    if s.sel.outputControl.getLsbD 1 = false ∧ s.bm.status &&& s.cfg.iblkMask = 0 then
      { s with irqPending := true, irqLine := true, events := .irqRaise :: s.events }
    else s

/-- The error classes (60_exceptions.md R270's table, R271, R272, R274; 40_register_access.md R156;
41_ata_commands.md R189): what each writes, and that `Fatal` writes the latch alone. -/
def Obligations.ErrorClassRecords : Prop :=
  ∀ (s : State) (key : BitVec 4) (asc : Byte) (r : FatalReason),
    raiseError .abort s = raiseInterrupt (s.withDrive { s.sel with
        status := 0x41, error := 0x04, state := .idle, sectorPos := 0 }) ∧
      raiseError (.atapi key asc) s = raiseInterrupt
        ((s.withCd { s.selCd with senseKey := key, asc := asc, ascq := 0x00 }).withDrive { s.sel with
          error := key ++ 0#4, status := 0x41, sectorCount := 0x03, state := .idle, sectorPos := 0 }) ∧
      raiseError (.fatal r) s = { s with fault := some r } ∧
      raiseError .access s = s.withDrive { s.sel with status := s.sel.status ||| 0x01, error := 0x04 } ∧
      raiseError .absent s = s.withDrive { s.sel with status := 0x01, error := 0x04 }

/-! ## The walker -/

/-- The kick at a START write and at a DMA command with START set (43_busmaster_dma.md R242, R247, R249; the third
event, the last packet word, stands in StreamedReadOverDma): a walk in the command's direction runs inside the access
or is handed to the worker; with an operation outstanding nothing happens; a walk against the command's direction is
refused, the model's treatment of U3 (log 13). -/
def Obligations.KickRunsTheWalk : Prop :=
  (∀ (s : State) (v : Byte), Live s → s.sel.state = .dmaActive → s.bm.command.getLsbD 0 = false →
    v.getLsbD 0 = true →
      let m := { s with bm := { s.bm with command := v &&& 0x09, status := s.bm.status ||| 0x01 } }
      let agrees := v.getLsbD 3 = true ↔ s.sel.command ≠ 0xCA
      (s.cfg.defer = false → agrees → exec (.iow8BmCommand v) s = .next (wholeWalk m)) ∧
      (s.cfg.defer = true → s.slot.op = .idle → agrees →
        exec (.iow8BmCommand v) s = .next { m.withDrive { s.sel with status := 0x80 } with
          slot := { op := .write, reg := .bm, port := s.cfg.channel.base, data := v.setWidth 32, size := 1 } }) ∧
      (s.cfg.defer = true → s.slot.op ≠ .idle → exec (.iow8BmCommand v) s = .next m) ∧
      (¬agrees → s.cfg.defer = false ∨ s.slot.op = .idle →
        exec (.iow8BmCommand v) s = .refused .directionMismatch)) ∧
    ∀ (s : State) (v : Byte) (i : Instr), (v = 0xC8 ∧ i = .readDma) ∨ (v = 0xCA ∧ i = .writeDma) →
      AcceptingCommand s .ata → s.cfg.defer = false → isStart s.bm.command = true →
        rangeAddressable s = true →
          ((s.bm.command.getLsbD 3 = true ↔ v = 0xC8) →
            exec i s = .next (wholeWalk (armDma (acceptCommand v s)))) ∧
          (¬(s.bm.command.getLsbD 3 = true ↔ v = 0xC8) → exec i s = .refused .directionMismatch)

/-- Every walk ends (43_busmaster_dma.md R255 (d), (e)): from any point of a walk whose position is inside its unit,
within twice the bytes left and three steps the walker's registers are gone, the drive is idle and the lock is given
back; so does a whole walk from its set-up, whose bound is the model's (log 19). -/
def Obligations.EveryWalkEnds : Prop :=
  (∀ (s : State) (w : Walker), s.walk = .running w → w.pos < w.unit →
    let t := runWalk (2 * (w.units * w.unit) + 3) s
    t.walk = .idle ∧ t.sel.state = .idle ∧ t.locks.get s.selectedDrive = false) ∧
    ∀ s : State, 0 < s.sel.unitSize →
      (wholeWalk s).walk = .idle ∧ (wholeWalk s).sel.state = .idle ∧ (wholeWalk s).sel.status = 0x40 ∧
        (wholeWalk s).locks.get s.selectedDrive = false

/-- A descriptor (43_busmaster_dma.md R250; 30_encoding.md R113, R114): the walker that awaits one reads eight bytes
at `w.p` and takes the address, the span length (0 stands for 65536) and the flag of the descriptor they encode; the
descriptor row does the same with a descriptor handed to it, and has no effect where none is awaited (the row as an
instruction is the model's reading, log 14). -/
def Obligations.DescriptorIsTaken : Prop :=
  ∀ (s : State) (w : Walker) (address : Word) (count : Half) (ignored : BitVec 15) (eot : Bool),
    let taken := Walk.running
      { w with addr := address, cnt := if count = 0 then 65536 else count.toNat, last := eot }
    let awaited := w.failed = false ∧ w.units ≠ 0 ∧ w.cnt = 0 ∧ w.last = false
    (awaited → s.mem.readSpan s.freeCount w.p.toNat 8 = (encode .primary (.prdEntry address count ignored eot)).2 →
      walkStep w s = { s with
        walk := taken, events := .dmaRead w.p 8 :: s.events, freeCount := s.freeCount + 1 }) ∧
      (Live s → s.walk = .running w → awaited →
        exec (.prdEntry address count ignored eot) s = .next { s with walk := taken }) ∧
      (Live s → s.walk = .running w → ¬awaited →
        exec (.prdEntry address count ignored eot) s = .next s) ∧
      (Live s → s.walk = .idle ∨ s.walk = .pending → exec (.prdEntry address count ignored eot) s = .next s)

/-- The two exits of a walk (43_busmaster_dma.md R251, R252): what the successful and the error exit write, and that
the error exit raises nothing. -/
def Obligations.WalkExits : Prop :=
  ∀ (s : State) (w : Walker),
    let released := { s with
      locks := s.locks.set s.selectedDrive false
      events := .device s.selectedDrive .release :: s.events
      walk := .idle }
    let isPacket := s.sel.command = 0xA0
    (w.failed = false → w.units = 0 →
      walkStep w s = raiseInterrupt
        ({ released with
          bm := { s.bm with
            status := if w.last = true ∧ w.cnt = 0 then s.bm.status &&& 0xFE else s.bm.status }
          cds := if isPacket then
              s.cds.set s.selectedDrive { s.selCd with nextLba := w.lba, remainingSectors := 0, remainingBytes := 0 }
            else s.cds }.withDrive
          (if isPacket then
            { s.sel with sectorCount := 0x03, error := 0x00, status := 0x40, state := .idle }
           else
            { s.sel with
              dmaLbaStart := w.lba, dmaLbaCount := 0, error := 0x00, status := 0x40, state := .idle }))) ∧
      (w.failed = true ∨ (w.units ≠ 0 ∧ w.cnt = 0 ∧ w.last = true) →
        walkStep w s =
          { released with
            bm := { s.bm with status := s.bm.status ||| 0x02 }
            cds := if isPacket then
                s.cds.set s.selectedDrive
                  { s.selCd with nextLba := w.lba, remainingSectors := BitVec.ofNat 32 w.units }
              else s.cds }.withDrive
            (if isPacket then { s.sel with status := 0x40, state := .idle }
             else { s.sel with
               dmaLbaStart := w.lba, dmaLbaCount := w.units, status := 0x40, state := .idle }))

/-- A walk turn by turn (43_busmaster_dma.md R248, R250, R253; 60_exceptions.md R295; 20_memory.md R80). The set-up takes the lock and
gives the walker its registers (`addr` is the model's choice, log 24). A chunk of `min(w.cnt, unit - w.pos)` bytes to
memory comes from the buffer, filled by `readBlock` at a unit's first byte; a chunk from memory goes to the buffer,
written by `writeBlock` at a unit's last byte; both move the counters. A call that answers SHORT moves nothing further
and marks the walk failed, so that its next step is the error exit of WalkExits (that SHORT leaves the device's
position is the model's choice, log 7; so is `failed` with the error exit as a step of its own, log 16). The worker's
turn is one such step; the last one, and only the last, frees the slot together with the status write (that the
mailbox fields other than `op` stay once it is IDLE is the model's choice, log 3). Its first turn is the set-up, or
the refusal of a walk against the command's direction (log 13). -/
def Obligations.WalkTurnByTurn : Prop :=
  ∀ (s : State) (w : Walker),
    let calls := fun (c : DeviceCall) => Event.device s.selectedDrive c
    let isPacket := s.sel.command = 0xA0
    let first : Word := if isPacket then s.selCd.nextLba else s.sel.dmaLbaStart
    let chunk := w.failed = false ∧ w.units ≠ 0 ∧ w.cnt ≠ 0
    let n := min w.cnt (w.unit - w.pos)
    let ends := w.pos + n = w.unit
    let moved := { w with
      addr := w.addr + BitVec.ofNat 32 n
      cnt := w.cnt - n
      pos := if ends then 0 else w.pos + n
      units := if ends then w.units - 1 else w.units
      lba := if ends then w.lba + 1 else w.lba
      p := if w.cnt = n ∧ ¬(ends ∧ w.units = 1) then w.p + 8 else w.p }
    let failing := Walk.running { w with failed := true }
    let short := s.selDevice.shorts.headD false
    let answered := { s.selDevice with shorts := s.selDevice.shorts.tail }
    let content := blockContent s.selectedDrive s.selDevice s.selDevice.position w.unit
    let filled := { s.sel with buffer := bufferPut s.cfg.maxBlock s.sel.buffer 0 content }
    let arrived := { s.sel with
      buffer := bufferPut s.cfg.maxBlock s.sel.buffer w.pos (s.mem.readSpan s.freeCount w.addr.toNat n) }
    (∃ w0, walkSetup s = { s with
        locks := s.locks.set s.selectedDrive true
        devices := s.devices.set s.selectedDrive { s.selDevice with position := first.toNat }
        events := calls (.seek first.toNat) :: calls .acquire :: s.events
        walk := .running w0 } ∧
      w0 = { p := s.bm.prdPtr &&& 0xFFFFFFFC, addr := w0.addr, cnt := 0, last := false, pos := 0
             units := if isPacket then s.selCd.remainingSectors.toNat else s.sel.dmaLbaCount
             lba := first, toMem := s.bm.command.getLsbD 3, unit := s.sel.unitSize, failed := false }) ∧
    (chunk → w.toMem = true → w.pos ≠ 0 → walkStep w s = { s with
      mem := s.mem.writeSpan w.addr.toNat (bufferSlice s.sel.buffer w.pos n)
      events := .dmaWrite w.addr n :: s.events
      walk := .running moved }) ∧
    (chunk → w.toMem = true → w.pos = 0 → short = false → walkStep w s = { s.withDrive filled with
      devices := s.devices.set s.selectedDrive { answered with position := s.selDevice.position + 1 }
      mem := s.mem.writeSpan w.addr.toNat (bufferSlice filled.buffer 0 n)
      events := .dmaWrite w.addr n :: calls (.readBlock w.unit) :: s.events
      walk := .running moved }) ∧
    (chunk → w.toMem = true → w.pos = 0 → short = true → walkStep w s = { s with
      devices := s.devices.set s.selectedDrive answered
      events := calls (.readBlock w.unit) :: s.events
      walk := failing }) ∧
    (chunk → w.toMem = false → ¬ends → walkStep w s = { s.withDrive arrived with
      events := .dmaRead w.addr n :: s.events
      freeCount := s.freeCount + 1
      walk := .running moved }) ∧
    (chunk → w.toMem = false → ends → short = false → walkStep w s = { s.withDrive arrived with
      devices := s.devices.set s.selectedDrive { answered with
        position := s.selDevice.position + 1
        blocks := sparsePut s.selDevice.blocks s.selDevice.position (bufferSlice arrived.buffer 0 w.unit) }
      events := calls (.writeBlock w.unit) :: .dmaRead w.addr n :: s.events
      freeCount := s.freeCount + 1
      walk := .running moved }) ∧
    (chunk → w.toMem = false → ends → short = true → walkStep w s = { s.withDrive arrived with
      devices := s.devices.set s.selectedDrive answered
      events := calls (.writeBlock w.unit) :: .dmaRead w.addr n :: s.events
      freeCount := s.freeCount + 1
      walk := failing }) ∧
    (Live s → s.walk = .running w →
      let t := walkStep w s
      (t.walk = .idle → workerStep s = .next { t with slot := { s.slot with op := .idle } } ∧ t.sel.status = 0x40) ∧
        (t.walk ≠ .idle → workerStep s = .next t ∧ t.slot = s.slot ∧ t.sel.status = s.sel.status)) ∧
    (Live s → WalkHandedOver s →
      ((s.bm.command.getLsbD 3 = true ↔ s.sel.command ≠ 0xCA) → workerStep s = .next (walkSetup s)) ∧
        (¬(s.bm.command.getLsbD 3 = true ↔ s.sel.command ≠ 0xCA) → workerStep s = .refused .directionMismatch))

/-- A one-sector device-to-memory transfer split over two descriptors (43_busmaster_dma.md R254): both parts land at
their addresses, ACTIVE is cleared, ERROR stays as it was, the drive is ready and idle; the events at the interface
are the calls and memory accesses of the walk in order and, unless gated, exactly one interrupt. -/
def Obligations.SplitSectorDmaRead : Prop :=
  ∀ (s : State) (v : Byte) (a1 a2 : Word) (c1 c2 : Half) (i1 i2 : BitVec 15),
    Live s → s.cfg.defer = false → s.cfg.iblkMask &&& 0x67 = 0 → 512 ≤ s.cfg.maxBlock →
    s.bm.command.getLsbD 0 = false → v.getLsbD 0 = true → v.getLsbD 3 = true →
    s.sel.state = .dmaActive → s.sel.command = 0xC8 → s.sel.unitSize = 512 → s.sel.dmaLbaCount = 1 →
    s.selDevice.shorts.headD false = false → c1 ≠ 0 → c2 ≠ 0 → c1.toNat + c2.toNat = 512 →
      let block := blockContent s.selectedDrive s.selDevice s.sel.dmaLbaStart.toNat 512
      let p := s.bm.prdPtr &&& 0xFFFFFFFC
      let calls := fun (c : DeviceCall) => Event.device s.selectedDrive c
      let half := s.mem.writeSpan a1.toNat (block.take c1.toNat)
      (∀ n, s.mem.readSpan n p.toNat 8 = (encode .primary (.prdEntry a1 c1 i1 false)).2) →
      (∀ n, half.readSpan n (p + 8).toNat 8 = (encode .primary (.prdEntry a2 c2 i2 true)).2) →
        ∃ t, exec (.iow8BmCommand v) s = .next t ∧
          t.mem = half.writeSpan a2.toNat (block.drop c1.toNat) ∧
          t.bm.status = (s.bm.status &&& 0xFE) ∧ t.sel.status = 0x40 ∧ t.sel.error = 0x00 ∧
          t.sel.state = .idle ∧ t.walk = .idle ∧ t.sel.dmaLbaCount = 0 ∧
          t.irqPending = (s.irqPending || !interruptGated s) ∧
          t.events = (if interruptGated s = true then [] else [Event.irqRaise]) ++
            [calls .release, .dmaWrite a2 c2.toNat, .dmaRead (p + 8) 8, .dmaWrite a1 c1.toNat, calls (.readBlock 512),
              .dmaRead p 8, calls (.seek s.sel.dmaLbaStart.toNat), calls .acquire] ++ s.events

/-! ## Addresses -/

/-- The advance of the task file (41_ata_commands.md R173; 30_encoding.md R106): in LBA mode below the last 28-bit
number, and in CHS mode for a valid address whose cylinder does not wrap, the logical address grows by exactly 1; the
head register's bits 7:4 never change. -/
def Obligations.AddressAdvanceIsOne : Prop :=
  ∀ (c : DriveConfig) (x : Drive), 1 ≤ c.heads → c.heads ≤ 16 → 1 ≤ c.spt → c.spt ≤ 255 →
    (x.head.getLsbD 6 = true → (lbaAddress x).toNat + 1 < 2 ^ 28 →
      makeLogical c (incAddress c x) = makeLogical c x + 1) ∧
      (x.head.getLsbD 6 = false → 1 ≤ x.sectorNumber.toNat → x.sectorNumber.toNat ≤ c.spt →
        (x.head.extractLsb' 0 4).toNat < c.heads →
        ¬(x.cylinder = 0xFFFF ∧ (x.head.extractLsb' 0 4).toNat + 1 = c.heads ∧ x.sectorNumber.toNat = c.spt) →
          makeLogical c (incAddress c x) = makeLogical c x + 1) ∧
      (incAddress c x).head.extractLsb' 4 4 = x.head.extractLsb' 4 4
end

