-- ==== Sys2Proof/Laws/Decode.lean ====
section
/-!
SUPPORT. What the decoder answers on the bytes the encoder writes, and what it accepts: the byte-order lemmas and
the split of a transaction's bytes.
-/

namespace Sys2Proof

theorem le16_bytes (v : Half) : le16 (byteOf v 0) (byteOf v 1) = v := by
  apply BitVec.eq_of_getLsbD_eq; intro i hi
  simp only [le16, byteOf, BitVec.getLsbD_append, BitVec.getLsbD_extractLsb']
  by_cases h : i < 8
  · simp [h]
  · simp [h, show i - 8 < 8 by omega, show 8 + (i - 8) = i by omega]

theorem be16_bytes (v : Half) : be16 (byteOf v 1) (byteOf v 0) = v := le16_bytes v

theorem le32_bytes (v : Word) : le32 (byteOf v 0) (byteOf v 1) (byteOf v 2) (byteOf v 3) = v := by
  apply BitVec.eq_of_getLsbD_eq; intro i hi
  simp only [le32, byteOf, BitVec.getLsbD_append, BitVec.getLsbD_extractLsb']
  by_cases h : i < 8
  · simp [h]
  · by_cases h2 : i < 16
    · simp [h, show i - 8 < 8 by omega, show 8 + (i - 8) = i by omega]
    · by_cases h3 : i < 24
      · simp [h, show ¬(i - 8 < 8) by omega, show i - 8 - 8 < 8 by omega, show 16 + (i - 8 - 8) = i by omega]
      · simp [h, show ¬(i - 8 < 8) by omega, show ¬(i - 8 - 8 < 8) by omega, show i - 8 - 8 - 8 < 8 by omega,
          show 24 + (i - 8 - 8 - 8) = i by omega]

theorem be32_bytes (v : Word) : be32 (byteOf v 3) (byteOf v 2) (byteOf v 1) (byteOf v 0) = v := le32_bytes v

theorem be24_bytes (v : BitVec 24) : be24 (byteOf v 2) (byteOf v 1) (byteOf v 0) = v := by
  apply BitVec.eq_of_getLsbD_eq; intro i hi
  simp only [be24, byteOf, BitVec.getLsbD_append, BitVec.getLsbD_extractLsb']
  by_cases h : i < 8
  · simp [h]
  · by_cases h2 : i < 16
    · simp [h, show i - 8 < 8 by omega, show 8 + (i - 8) = i by omega]
    · simp [h, show ¬(i - 8 < 8) by omega, show i - 8 - 8 < 8 by omega, show 16 + (i - 8 - 8) = i by omega]

/-- The bytes of a little-endian word. -/
theorem byteOf_le16 (a b : Byte) : byteOf (le16 a b) 0 = a ∧ byteOf (le16 a b) 1 = b := by
  constructor <;> apply BitVec.eq_of_getLsbD_eq <;> intro i hi <;>
    simp only [le16, byteOf, BitVec.getLsbD_append, BitVec.getLsbD_extractLsb']
  · simp [hi]
  · simp [hi]

/-- The fields of the high byte of a transaction word. -/
theorem ioHighByte_fields (w : Window) (wr : Bool) :
    (ioHighByte w wr).extractLsb' 0 4 = 0 ∧ windowOf ((ioHighByte w wr).extractLsb' 4 3) = some w ∧
      (ioHighByte w wr).getLsbD 7 = wr := by
  cases w <;> cases wr <;> decide

/-- An access decodes from its own size and data bytes. -/
theorem decodeAccess_accessBytes (a : Access) (size : Byte) (data : List Byte) (h : accessBytes a = size :: data) :
    decodeAccess a.isWrite size data = .ok a := by
  cases a <;> simp only [accessBytes, List.cons.injEq] at h <;> obtain ⟨rfl, rfl⟩ := h
  · rfl
  · rfl
  · rfl
  · rfl
  · simp [Access.isWrite, decodeAccess, le16_bytes]
  · simp [Access.isWrite, decodeAccess, le32_bytes]

/-- The bytes of a transaction are its window, offset and access. -/
theorem decode_ioBytes (cx : DecodeContext) (w : Window) (offset : Byte) (a : Access) :
    decode cx .io (ioBytes w offset a) = decodeTransaction cx w offset a := by
  obtain ⟨size, data, h⟩ : ∃ size data, accessBytes a = size :: data := by cases a <;> exact ⟨_, _, rfl⟩
  obtain ⟨h0, h1, h2⟩ := ioHighByte_fields w a.isWrite
  simp only [decode, ioBytes, h, decodeIo, h0, ne_eq, not_true_eq_false, if_false, h1, h2,
    decodeAccess_accessBytes a size data h]

/-- What is accepted as an access has the bytes of that access. -/
theorem accessBytes_of_decodeAccess {wr : Bool} {size : Byte} {data : List Byte} {a : Access}
    (h : decodeAccess wr size data = .ok a) : a.isWrite = wr ∧ accessBytes a = size :: data := by
  unfold decodeAccess at h
  split at h
  · split_ifs at h with h1 h2 h4 <;> cases h
    · exact ⟨rfl, by rw [h1]; rfl⟩
    · exact ⟨rfl, by rw [h2]; rfl⟩
    · exact ⟨rfl, by rw [h4]; rfl⟩
  · cases h
  · cases h
  · split_ifs at h with h1
    cases h
    exact ⟨rfl, by rw [h1]; rfl⟩
  · split_ifs at h with h1
    cases h
    next a b => exact ⟨rfl, by rw [h1, accessBytes, (byteOf_le16 a b).1, (byteOf_le16 a b).2]⟩
  · cases h
  · split_ifs at h with h1
    cases h
    next a b c e =>
    refine ⟨rfl, ?_⟩
    rw [h1, accessBytes]
    simp only [List.cons.injEq, and_true, true_and]
    refine ⟨?_, ?_, ?_, ?_⟩ <;> apply BitVec.eq_of_getLsbD_eq <;> intro i hi <;>
      simp only [le32, byteOf, BitVec.getLsbD_append, BitVec.getLsbD_extractLsb']
    · simp [hi]
    · simp [hi]
    · simp [hi, show ¬(16 + i < 8) by omega, show ¬(16 + i - 8 < 8) by omega,
        show 16 + i - 8 - 8 = i by omega]
    · simp [hi, show ¬(24 + i < 8) by omega, show ¬(24 + i - 8 < 8) by omega, show ¬(24 + i - 8 - 8 < 8) by omega,
        show 24 + i - 8 - 8 - 8 = i by omega]
  · cases h

/-- What is accepted as a transaction has the bytes of its window, offset and access. -/
theorem ioBytes_of_decodeIo {cx : DecodeContext} {bytes : List Byte} {i : Instr} (h : decodeIo cx bytes = .ok i) :
    ∃ w offset a, bytes = ioBytes w offset a ∧ decodeTransaction cx w offset a = .ok i := by
  unfold decodeIo at h
  split at h
  · next t0 t1 size data =>
    split_ifs at h with h0
    split at h
    · cases h
    · cases h
    · next w a hw ha =>
      obtain ⟨hwr, hb⟩ := accessBytes_of_decodeAccess ha
      refine ⟨w, t0, a, ?_, h⟩
      rw [ioBytes, hb, hwr]
      have : ioHighByte w (t1.getLsbD 7) = t1 := by
        revert hw h0
        generalize t1 = b
        cases w <;> (revert b; decide)
      rw [this]
  · cases h

end Sys2Proof
end

