-- ==== Sys2Proof/Laws/Memory.lean ====
section
/-!
SUPPORT. The laws of sparse data and of guest memory: what is read after a write, and that every operation on
memory keeps the canonical form.
-/

namespace Sys2Proof.Machine

/-! ## Sparse data -/

section Sparse

variable {α : Type}

theorem sparseRising_cons (k : Nat) (v : α) (m : List (Nat × α)) :
    sparseRising ((k, v) :: m) = true ↔ (∀ c ∈ m, k < c.1) ∧ sparseRising m = true := by
  simp [sparseRising]

/-- A key below every listed key is not listed. -/
theorem sparseGet_below (m : List (Nat × α)) (a : Nat) (h : ∀ c ∈ m, a < c.1) : sparseGet m a = none := by
  induction m with
  | nil => rfl
  | cons c m ih =>
    obtain ⟨k, v⟩ := c
    have hk : a < k := h (k, v) (by simp)
    simp only [sparseGet, if_neg (Nat.ne_of_gt hk)]
    exact ih fun c hc => h c (by simp [hc])

theorem sparseGet_put_same (m : List (Nat × α)) (a : Nat) (v : α) : sparseGet (sparsePut m a v) a = some v := by
  induction m with
  | nil => simp [sparsePut, sparseGet]
  | cons c m ih =>
    obtain ⟨k, w⟩ := c
    simp only [sparsePut]
    split
    · simp [sparseGet]
    · split
      · simp [sparseGet]
      · next h => simpa [sparseGet, Ne.symm h] using ih

theorem sparseGet_put_other (m : List (Nat × α)) {a b : Nat} (v : α) (h : b ≠ a) :
    sparseGet (sparsePut m a v) b = sparseGet m b := by
  induction m with
  | nil => simp [sparsePut, sparseGet, Ne.symm h]
  | cons c m ih =>
    obtain ⟨k, w⟩ := c
    simp only [sparsePut]
    split
    · simp [sparseGet, Ne.symm h]
    · split
      · next hak => subst hak; simp [sparseGet, Ne.symm h]
      · simp [sparseGet, ih]

theorem sparseGet_erase_same (m : List (Nat × α)) (a : Nat) (h : sparseRising m = true) :
    sparseGet (sparseErase m a) a = none := by
  induction m with
  | nil => rfl
  | cons c m ih =>
    obtain ⟨k, w⟩ := c
    rw [sparseRising_cons] at h
    simp only [sparseErase]
    split
    · next hk => subst hk; exact sparseGet_below m k h.1
    · next hk => simpa [sparseGet, hk] using ih h.2

theorem sparseGet_erase_other (m : List (Nat × α)) {a b : Nat} (h : b ≠ a) :
    sparseGet (sparseErase m a) b = sparseGet m b := by
  induction m with
  | nil => rfl
  | cons c m ih =>
    obtain ⟨k, w⟩ := c
    simp only [sparseErase]
    split
    · next hk => subst hk; simp [sparseGet, Ne.symm h]
    · simp [sparseGet, ih]

/-- What a put lists: the new entry and old ones. -/
theorem mem_sparsePut {m : List (Nat × α)} {a : Nat} {v : α} {c : Nat × α} (h : c ∈ sparsePut m a v) :
    c = (a, v) ∨ c ∈ m := by
  induction m with
  | nil => simpa [sparsePut] using h
  | cons e m ih =>
    obtain ⟨k, w⟩ := e
    simp only [sparsePut] at h
    split at h
    · simpa using h
    · split at h
      · rcases List.mem_cons.1 h with h | h
        · exact .inl h
        · exact .inr (by simp [h])
      · rcases List.mem_cons.1 h with h | h
        · exact .inr (by simp [h])
        · rcases ih h with h | h
          · exact .inl h
          · exact .inr (by simp [h])

theorem mem_sparseErase {m : List (Nat × α)} {a : Nat} {c : Nat × α} (h : c ∈ sparseErase m a) : c ∈ m := by
  induction m with
  | nil => simp [sparseErase] at h
  | cons e m ih =>
    obtain ⟨k, w⟩ := e
    simp only [sparseErase] at h
    split at h
    · simp [h]
    · rcases List.mem_cons.1 h with h | h
      · simp [h]
      · simp [ih h]

theorem sparseRising_put (m : List (Nat × α)) (a : Nat) (v : α) (h : sparseRising m = true) :
    sparseRising (sparsePut m a v) = true := by
  induction m with
  | nil => simp [sparsePut, sparseRising]
  | cons c m ih =>
    obtain ⟨k, w⟩ := c
    have hh := (sparseRising_cons k w m).1 h
    simp only [sparsePut]
    split
    · next hlt =>
      rw [sparseRising_cons]
      refine ⟨fun c hc => ?_, h⟩
      rcases List.mem_cons.1 hc with hc | hc
      · subst hc; exact hlt
      · exact Nat.lt_trans hlt (hh.1 c hc)
    · next hlt =>
      split
      · next heq => subst heq; rw [sparseRising_cons]; exact hh
      · next hne =>
        rw [sparseRising_cons]
        refine ⟨fun c hc => ?_, ih hh.2⟩
        rcases mem_sparsePut hc with hc | hc
        · subst hc; exact Nat.lt_of_le_of_ne (Nat.le_of_not_lt hlt) (Ne.symm hne)
        · exact hh.1 c hc

theorem sparseRising_erase (m : List (Nat × α)) (a : Nat) (h : sparseRising m = true) :
    sparseRising (sparseErase m a) = true := by
  induction m with
  | nil => rfl
  | cons c m ih =>
    obtain ⟨k, w⟩ := c
    rw [sparseRising_cons] at h
    simp only [sparseErase]
    split
    · exact h.2
    · rw [sparseRising_cons]
      exact ⟨fun c hc => h.1 c (mem_sparseErase hc), ih h.2⟩

end Sparse

/-! ## Guest memory -/

/-- What the canonical form says. -/
theorem Memory.wf_iff (m : Memory) :
    m.wf = true ↔ sparseRising m = true ∧ ∀ c ∈ m, c.1 < 2 ^ 32 ∧ c.2 ≠ Config.memoryDefault := by
  simp [Memory.wf]

/-- A read of the address just written gives the byte written. -/
theorem Memory.read_write_same (m : Memory) (a : Nat) (v : Byte) (h : m.wf = true) :
    (m.write a v).read a = v := by
  rw [Memory.wf_iff] at h
  unfold Memory.write Memory.read
  split
  · next hv => rw [sparseGet_erase_same m a h.1, hv]; rfl
  · rw [sparseGet_put_same]; rfl

/-- A write leaves every other address alone. -/
theorem Memory.read_write_other (m : Memory) {a b : Nat} (v : Byte) (h : b ≠ a) :
    (m.write a v).read b = m.read b := by
  unfold Memory.write Memory.read
  split
  · rw [sparseGet_erase_other m h]
  · rw [sparseGet_put_other m v h]

/-- A write keeps the canonical form. -/
theorem Memory.write_wf (m : Memory) (a : Nat) (v : Byte) (ha : a < 2 ^ 32) (h : m.wf = true) :
    (m.write a v).wf = true := by
  rw [Memory.wf_iff] at h ⊢
  unfold Memory.write
  split
  · exact ⟨sparseRising_erase m a h.1, fun c hc => h.2 c (mem_sparseErase hc)⟩
  · next hv =>
    refine ⟨sparseRising_put m a v h.1, fun c hc => ?_⟩
    rcases mem_sparsePut hc with hc | hc
    · subst hc; exact ⟨ha, hv⟩
    · exact h.2 c hc

/-- A span's byte lies within 32 bits, whatever the platform does beyond the top. -/
theorem spanAddress_lt {a x : Nat} (h : spanAddress a = some x) : x < 2 ^ 32 := by
  unfold spanAddress at h
  split at h
  · next ha => simp only [Option.some.injEq] at h; omega
  · simp only [Option.map_eq_some_iff] at h
    obtain ⟨w, -, rfl⟩ := h
    exact w.isLt

/-- A span write keeps the canonical form. -/
theorem Memory.writeSpan_wf (m : Memory) (a : Nat) (bs : List Byte) (h : m.wf = true) :
    (m.writeSpan a bs).wf = true := by
  induction bs generalizing m a with
  | nil => exact h
  | cons b bs ih =>
    simp only [Memory.writeSpan]
    split
    · next x hx => exact ih _ _ (Memory.write_wf m x b (spanAddress_lt hx) h)
    · exact ih _ _ h

/-- A byte that no byte of the span lies at is left alone. -/
theorem Memory.read_writeSpan_other (m : Memory) (a : Nat) (bs : List Byte) (x : Nat)
    (h : ∀ i, i < bs.length → spanAddress (a + i) ≠ some x) : (m.writeSpan a bs).read x = m.read x := by
  induction bs generalizing m a with
  | nil => rfl
  | cons b bs ih =>
    have hrest : ∀ i, i < bs.length → spanAddress (a + 1 + i) ≠ some x := fun i hi => by
      have := h (i + 1) (by simpa using hi)
      rwa [show a + (i + 1) = a + 1 + i by omega] at this
    have h0 : spanAddress a ≠ some x := by simpa using h 0 (by simp)
    simp only [Memory.writeSpan]
    split
    · next y hy =>
      rw [ih _ _ hrest, Memory.read_write_other]
      intro hxy
      exact h0 (hxy ▸ hy)
    · exact ih _ _ hrest

/-- A read of `n` bytes gives `n` bytes. -/
theorem Memory.readSpan_length (m : Memory) (count a n : Nat) : (m.readSpan count a n).length = n := by
  induction n generalizing a with
  | zero => rfl
  | succ n ih => simp [Memory.readSpan, ih]

/-- A read inside the 32-bit space does not depend on the count of free values. -/
theorem Memory.readSpan_inside (m : Memory) (count count' a n : Nat) (h : a + n ≤ 2 ^ 32) :
    m.readSpan count a n = m.readSpan count' a n := by
  induction n generalizing a with
  | zero => rfl
  | succ n ih =>
    have ha : a < 2 ^ 32 := by omega
    simp only [Memory.readSpan, Memory.readSpanByte, spanAddress, ha, if_true]
    rw [ih (a + 1) (by omega)]

/-- Memory after reset lists nothing and is canonical. -/
theorem reset_memory_wf : Memory.wf State.reset.mem = true := rfl

/-! ## The sector buffer -/

/-- The buffer never grows past its capacity. -/
theorem bufferPut_length_le (cap : Nat) (buf : List Byte) (p : Nat) (bs : List Byte) :
    (bufferPut cap buf p bs).length ≤ cap := by
  simp [bufferPut, List.length_take]

/-- A slice of `n` bytes has `n` bytes. -/
theorem bufferSlice_length (buf : List Byte) (p n : Nat) : (bufferSlice buf p n).length = n := by
  simp [bufferSlice]

/-- A byte just stored within the capacity is read back. -/
theorem bufferByte_put_inside (cap : Nat) (buf : List Byte) (p : Nat) (bs : List Byte) (i : Nat)
    (hi : i < bs.length) (hc : p + bs.length ≤ cap) : bufferByte (bufferPut cap buf p bs) (p + i) = bs.getD i 0 := by
  have hlen : (buf.take p ++ List.replicate (p - buf.length) (0 : Byte)).length = p := by
    simp; omega
  simp only [bufferByte, bufferPut, List.getD_eq_getElem?_getD]
  rw [List.getElem?_take_of_lt (by omega), List.append_assoc, List.getElem?_append_right (by omega), hlen,
    Nat.add_sub_cancel_left, List.getElem?_append_left hi]

/-- A position before the bytes stored keeps its byte. -/
theorem bufferByte_put_below (cap : Nat) (buf : List Byte) (p : Nat) (bs : List Byte) (q : Nat)
    (hq : q < p) (hc : q < cap) : bufferByte (bufferPut cap buf p bs) q = bufferByte buf q := by
  have hlen : (buf.take p ++ List.replicate (p - buf.length) (0 : Byte)).length = p := by
    simp; omega
  simp only [bufferByte, bufferPut, List.getD_eq_getElem?_getD]
  rw [List.getElem?_take_of_lt hc, List.append_assoc, List.getElem?_append_left (by omega)]
  by_cases hb : q < buf.length
  · rw [List.getElem?_append_left (by simp; omega), List.getElem?_take_of_lt hq]
  · rw [List.getElem?_append_right (by simp; omega), List.getElem?_replicate]
    rw [List.getElem?_eq_none (by omega)]
    split <;> rfl

/-- A position past the bytes stored keeps its byte. -/
theorem bufferByte_put_above (cap : Nat) (buf : List Byte) (p : Nat) (bs : List Byte) (q : Nat)
    (hq : p + bs.length ≤ q) (hc : q < cap) : bufferByte (bufferPut cap buf p bs) q = bufferByte buf q := by
  have hlen : (buf.take p ++ List.replicate (p - buf.length) (0 : Byte)).length = p := by
    simp; omega
  simp only [bufferByte, bufferPut, List.getD_eq_getElem?_getD]
  rw [List.getElem?_take_of_lt hc, List.getElem?_append_right (by rw [List.length_append]; omega),
    List.length_append, hlen, List.getElem?_drop]
  congr 2
  omega

end Sys2Proof.Machine
end

