-- ==== Sys2Proof/Laws/State.lean ====
section
/-!
SUPPORT. One lemma for each field of the state after each update, true by rfl, so that no proof unfolds a record
update; and what the selected drive, its CD-ROM sub-state, parameters and device are after each.
-/

namespace Sys2Proof

/-! ## Pairs -/

@[simp] theorem Pair.get_set_same {α : Type} (p : Pair α) (d : DriveId) (x : α) : (p.set d x).get d = x := by
  cases d <;> rfl

theorem Pair.get_set_other {α : Type} (p : Pair α) {d e : DriveId} (x : α) (h : e ≠ d) :
    (p.set d x).get e = p.get e := by
  cases d <;> cases e <;> first | rfl | exact absurd rfl h

@[simp] theorem Pair.set_set {α : Type} (p : Pair α) (d : DriveId) (x y : α) : (p.set d x).set d y = p.set d y := by
  cases d <;> rfl

@[simp] theorem Pair.set_get {α : Type} (p : Pair α) (d : DriveId) : p.set d (p.get d) = p := by
  cases d <;> rfl

namespace Machine

variable (s : State)

/-! ## withDrive -/

@[simp] theorem State.withDrive_cfg (x : Drive) : (s.withDrive x).cfg = s.cfg := rfl
@[simp] theorem State.withDrive_selectedDrive (x : Drive) : (s.withDrive x).selectedDrive = s.selectedDrive := rfl
@[simp] theorem State.withDrive_drives (x : Drive) : (s.withDrive x).drives = s.drives.set s.selectedDrive x := rfl
@[simp] theorem State.withDrive_cds (x : Drive) : (s.withDrive x).cds = s.cds := rfl
@[simp] theorem State.withDrive_bm (x : Drive) : (s.withDrive x).bm = s.bm := rfl
@[simp] theorem State.withDrive_irqPending (x : Drive) : (s.withDrive x).irqPending = s.irqPending := rfl
@[simp] theorem State.withDrive_irqLine (x : Drive) : (s.withDrive x).irqLine = s.irqLine := rfl
@[simp] theorem State.withDrive_slot (x : Drive) : (s.withDrive x).slot = s.slot := rfl
@[simp] theorem State.withDrive_walk (x : Drive) : (s.withDrive x).walk = s.walk := rfl
@[simp] theorem State.withDrive_fault (x : Drive) : (s.withDrive x).fault = s.fault := rfl
@[simp] theorem State.withDrive_locks (x : Drive) : (s.withDrive x).locks = s.locks := rfl
@[simp] theorem State.withDrive_mem (x : Drive) : (s.withDrive x).mem = s.mem := rfl
@[simp] theorem State.withDrive_devices (x : Drive) : (s.withDrive x).devices = s.devices := rfl
@[simp] theorem State.withDrive_inbox (x : Drive) : (s.withDrive x).inbox = s.inbox := rfl
@[simp] theorem State.withDrive_rdata (x : Drive) : (s.withDrive x).rdata = s.rdata := rfl
@[simp] theorem State.withDrive_events (x : Drive) : (s.withDrive x).events = s.events := rfl
@[simp] theorem State.withDrive_freeCount (x : Drive) : (s.withDrive x).freeCount = s.freeCount := rfl

@[simp] theorem State.withDrive_sel (x : Drive) : (s.withDrive x).sel = x := Pair.get_set_same _ _ _
@[simp] theorem State.withDrive_selCd (x : Drive) : (s.withDrive x).selCd = s.selCd := rfl
@[simp] theorem State.withDrive_selCfg (x : Drive) : (s.withDrive x).selCfg = s.selCfg := rfl
@[simp] theorem State.withDrive_selDevice (x : Drive) : (s.withDrive x).selDevice = s.selDevice := rfl

/-! ## withCd -/

@[simp] theorem State.withCd_cfg (x : CdRom) : (s.withCd x).cfg = s.cfg := rfl
@[simp] theorem State.withCd_selectedDrive (x : CdRom) : (s.withCd x).selectedDrive = s.selectedDrive := rfl
@[simp] theorem State.withCd_drives (x : CdRom) : (s.withCd x).drives = s.drives := rfl
@[simp] theorem State.withCd_cds (x : CdRom) : (s.withCd x).cds = s.cds.set s.selectedDrive x := rfl
@[simp] theorem State.withCd_bm (x : CdRom) : (s.withCd x).bm = s.bm := rfl
@[simp] theorem State.withCd_irqPending (x : CdRom) : (s.withCd x).irqPending = s.irqPending := rfl
@[simp] theorem State.withCd_irqLine (x : CdRom) : (s.withCd x).irqLine = s.irqLine := rfl
@[simp] theorem State.withCd_slot (x : CdRom) : (s.withCd x).slot = s.slot := rfl
@[simp] theorem State.withCd_walk (x : CdRom) : (s.withCd x).walk = s.walk := rfl
@[simp] theorem State.withCd_fault (x : CdRom) : (s.withCd x).fault = s.fault := rfl
@[simp] theorem State.withCd_locks (x : CdRom) : (s.withCd x).locks = s.locks := rfl
@[simp] theorem State.withCd_mem (x : CdRom) : (s.withCd x).mem = s.mem := rfl
@[simp] theorem State.withCd_devices (x : CdRom) : (s.withCd x).devices = s.devices := rfl
@[simp] theorem State.withCd_inbox (x : CdRom) : (s.withCd x).inbox = s.inbox := rfl
@[simp] theorem State.withCd_rdata (x : CdRom) : (s.withCd x).rdata = s.rdata := rfl
@[simp] theorem State.withCd_events (x : CdRom) : (s.withCd x).events = s.events := rfl
@[simp] theorem State.withCd_freeCount (x : CdRom) : (s.withCd x).freeCount = s.freeCount := rfl

@[simp] theorem State.withCd_sel (x : CdRom) : (s.withCd x).sel = s.sel := rfl
@[simp] theorem State.withCd_selCd (x : CdRom) : (s.withCd x).selCd = x := Pair.get_set_same _ _ _
@[simp] theorem State.withCd_selCfg (x : CdRom) : (s.withCd x).selCfg = s.selCfg := rfl
@[simp] theorem State.withCd_selDevice (x : CdRom) : (s.withCd x).selDevice = s.selDevice := rfl

/-! ## withDevice -/

@[simp] theorem State.withDevice_cfg (x : Device) : (s.withDevice x).cfg = s.cfg := rfl
@[simp] theorem State.withDevice_selectedDrive (x : Device) : (s.withDevice x).selectedDrive = s.selectedDrive := rfl
@[simp] theorem State.withDevice_drives (x : Device) : (s.withDevice x).drives = s.drives := rfl
@[simp] theorem State.withDevice_cds (x : Device) : (s.withDevice x).cds = s.cds := rfl
@[simp] theorem State.withDevice_bm (x : Device) : (s.withDevice x).bm = s.bm := rfl
@[simp] theorem State.withDevice_irqPending (x : Device) : (s.withDevice x).irqPending = s.irqPending := rfl
@[simp] theorem State.withDevice_irqLine (x : Device) : (s.withDevice x).irqLine = s.irqLine := rfl
@[simp] theorem State.withDevice_slot (x : Device) : (s.withDevice x).slot = s.slot := rfl
@[simp] theorem State.withDevice_walk (x : Device) : (s.withDevice x).walk = s.walk := rfl
@[simp] theorem State.withDevice_fault (x : Device) : (s.withDevice x).fault = s.fault := rfl
@[simp] theorem State.withDevice_locks (x : Device) : (s.withDevice x).locks = s.locks := rfl
@[simp] theorem State.withDevice_mem (x : Device) : (s.withDevice x).mem = s.mem := rfl
@[simp] theorem State.withDevice_devices (x : Device) : (s.withDevice x).devices = s.devices.set s.selectedDrive x := rfl
@[simp] theorem State.withDevice_inbox (x : Device) : (s.withDevice x).inbox = s.inbox := rfl
@[simp] theorem State.withDevice_rdata (x : Device) : (s.withDevice x).rdata = s.rdata := rfl
@[simp] theorem State.withDevice_events (x : Device) : (s.withDevice x).events = s.events := rfl
@[simp] theorem State.withDevice_freeCount (x : Device) : (s.withDevice x).freeCount = s.freeCount := rfl

@[simp] theorem State.withDevice_sel (x : Device) : (s.withDevice x).sel = s.sel := rfl
@[simp] theorem State.withDevice_selCd (x : Device) : (s.withDevice x).selCd = s.selCd := rfl
@[simp] theorem State.withDevice_selCfg (x : Device) : (s.withDevice x).selCfg = s.selCfg := rfl
@[simp] theorem State.withDevice_selDevice (x : Device) :
    (s.withDevice x).selDevice = x := Pair.get_set_same _ _ _

/-! ## withLock -/

@[simp] theorem State.withLock_cfg (b : Bool) : (s.withLock b).cfg = s.cfg := rfl
@[simp] theorem State.withLock_selectedDrive (b : Bool) : (s.withLock b).selectedDrive = s.selectedDrive := rfl
@[simp] theorem State.withLock_drives (b : Bool) : (s.withLock b).drives = s.drives := rfl
@[simp] theorem State.withLock_cds (b : Bool) : (s.withLock b).cds = s.cds := rfl
@[simp] theorem State.withLock_bm (b : Bool) : (s.withLock b).bm = s.bm := rfl
@[simp] theorem State.withLock_irqPending (b : Bool) : (s.withLock b).irqPending = s.irqPending := rfl
@[simp] theorem State.withLock_irqLine (b : Bool) : (s.withLock b).irqLine = s.irqLine := rfl
@[simp] theorem State.withLock_slot (b : Bool) : (s.withLock b).slot = s.slot := rfl
@[simp] theorem State.withLock_walk (b : Bool) : (s.withLock b).walk = s.walk := rfl
@[simp] theorem State.withLock_fault (b : Bool) : (s.withLock b).fault = s.fault := rfl
@[simp] theorem State.withLock_locks (b : Bool) : (s.withLock b).locks = s.locks.set s.selectedDrive b := rfl
@[simp] theorem State.withLock_mem (b : Bool) : (s.withLock b).mem = s.mem := rfl
@[simp] theorem State.withLock_devices (b : Bool) : (s.withLock b).devices = s.devices := rfl
@[simp] theorem State.withLock_inbox (b : Bool) : (s.withLock b).inbox = s.inbox := rfl
@[simp] theorem State.withLock_rdata (b : Bool) : (s.withLock b).rdata = s.rdata := rfl
@[simp] theorem State.withLock_events (b : Bool) : (s.withLock b).events = s.events := rfl
@[simp] theorem State.withLock_freeCount (b : Bool) : (s.withLock b).freeCount = s.freeCount := rfl

@[simp] theorem State.withLock_sel (b : Bool) : (s.withLock b).sel = s.sel := rfl
@[simp] theorem State.withLock_selCd (b : Bool) : (s.withLock b).selCd = s.selCd := rfl
@[simp] theorem State.withLock_selCfg (b : Bool) : (s.withLock b).selCfg = s.selCfg := rfl
@[simp] theorem State.withLock_selDevice (b : Bool) : (s.withLock b).selDevice = s.selDevice := rfl

/-! ## withBm -/

@[simp] theorem State.withBm_cfg (x : BusMaster) : (s.withBm x).cfg = s.cfg := rfl
@[simp] theorem State.withBm_selectedDrive (x : BusMaster) : (s.withBm x).selectedDrive = s.selectedDrive := rfl
@[simp] theorem State.withBm_drives (x : BusMaster) : (s.withBm x).drives = s.drives := rfl
@[simp] theorem State.withBm_cds (x : BusMaster) : (s.withBm x).cds = s.cds := rfl
@[simp] theorem State.withBm_bm (x : BusMaster) : (s.withBm x).bm = x := rfl
@[simp] theorem State.withBm_irqPending (x : BusMaster) : (s.withBm x).irqPending = s.irqPending := rfl
@[simp] theorem State.withBm_irqLine (x : BusMaster) : (s.withBm x).irqLine = s.irqLine := rfl
@[simp] theorem State.withBm_slot (x : BusMaster) : (s.withBm x).slot = s.slot := rfl
@[simp] theorem State.withBm_walk (x : BusMaster) : (s.withBm x).walk = s.walk := rfl
@[simp] theorem State.withBm_fault (x : BusMaster) : (s.withBm x).fault = s.fault := rfl
@[simp] theorem State.withBm_locks (x : BusMaster) : (s.withBm x).locks = s.locks := rfl
@[simp] theorem State.withBm_mem (x : BusMaster) : (s.withBm x).mem = s.mem := rfl
@[simp] theorem State.withBm_devices (x : BusMaster) : (s.withBm x).devices = s.devices := rfl
@[simp] theorem State.withBm_inbox (x : BusMaster) : (s.withBm x).inbox = s.inbox := rfl
@[simp] theorem State.withBm_rdata (x : BusMaster) : (s.withBm x).rdata = s.rdata := rfl
@[simp] theorem State.withBm_events (x : BusMaster) : (s.withBm x).events = s.events := rfl
@[simp] theorem State.withBm_freeCount (x : BusMaster) : (s.withBm x).freeCount = s.freeCount := rfl

@[simp] theorem State.withBm_sel (x : BusMaster) : (s.withBm x).sel = s.sel := rfl
@[simp] theorem State.withBm_selCd (x : BusMaster) : (s.withBm x).selCd = s.selCd := rfl
@[simp] theorem State.withBm_selCfg (x : BusMaster) : (s.withBm x).selCfg = s.selCfg := rfl
@[simp] theorem State.withBm_selDevice (x : BusMaster) : (s.withBm x).selDevice = s.selDevice := rfl

/-! ## withWalk -/

@[simp] theorem State.withWalk_cfg (x : Walk) : (s.withWalk x).cfg = s.cfg := rfl
@[simp] theorem State.withWalk_selectedDrive (x : Walk) : (s.withWalk x).selectedDrive = s.selectedDrive := rfl
@[simp] theorem State.withWalk_drives (x : Walk) : (s.withWalk x).drives = s.drives := rfl
@[simp] theorem State.withWalk_cds (x : Walk) : (s.withWalk x).cds = s.cds := rfl
@[simp] theorem State.withWalk_bm (x : Walk) : (s.withWalk x).bm = s.bm := rfl
@[simp] theorem State.withWalk_irqPending (x : Walk) : (s.withWalk x).irqPending = s.irqPending := rfl
@[simp] theorem State.withWalk_irqLine (x : Walk) : (s.withWalk x).irqLine = s.irqLine := rfl
@[simp] theorem State.withWalk_slot (x : Walk) : (s.withWalk x).slot = s.slot := rfl
@[simp] theorem State.withWalk_walk (x : Walk) : (s.withWalk x).walk = x := rfl
@[simp] theorem State.withWalk_fault (x : Walk) : (s.withWalk x).fault = s.fault := rfl
@[simp] theorem State.withWalk_locks (x : Walk) : (s.withWalk x).locks = s.locks := rfl
@[simp] theorem State.withWalk_mem (x : Walk) : (s.withWalk x).mem = s.mem := rfl
@[simp] theorem State.withWalk_devices (x : Walk) : (s.withWalk x).devices = s.devices := rfl
@[simp] theorem State.withWalk_inbox (x : Walk) : (s.withWalk x).inbox = s.inbox := rfl
@[simp] theorem State.withWalk_rdata (x : Walk) : (s.withWalk x).rdata = s.rdata := rfl
@[simp] theorem State.withWalk_events (x : Walk) : (s.withWalk x).events = s.events := rfl
@[simp] theorem State.withWalk_freeCount (x : Walk) : (s.withWalk x).freeCount = s.freeCount := rfl

@[simp] theorem State.withWalk_sel (x : Walk) : (s.withWalk x).sel = s.sel := rfl
@[simp] theorem State.withWalk_selCd (x : Walk) : (s.withWalk x).selCd = s.selCd := rfl
@[simp] theorem State.withWalk_selCfg (x : Walk) : (s.withWalk x).selCfg = s.selCfg := rfl
@[simp] theorem State.withWalk_selDevice (x : Walk) : (s.withWalk x).selDevice = s.selDevice := rfl

/-! ## withSlot -/

@[simp] theorem State.withSlot_cfg (x : Mailbox) : (s.withSlot x).cfg = s.cfg := rfl
@[simp] theorem State.withSlot_selectedDrive (x : Mailbox) : (s.withSlot x).selectedDrive = s.selectedDrive := rfl
@[simp] theorem State.withSlot_drives (x : Mailbox) : (s.withSlot x).drives = s.drives := rfl
@[simp] theorem State.withSlot_cds (x : Mailbox) : (s.withSlot x).cds = s.cds := rfl
@[simp] theorem State.withSlot_bm (x : Mailbox) : (s.withSlot x).bm = s.bm := rfl
@[simp] theorem State.withSlot_irqPending (x : Mailbox) : (s.withSlot x).irqPending = s.irqPending := rfl
@[simp] theorem State.withSlot_irqLine (x : Mailbox) : (s.withSlot x).irqLine = s.irqLine := rfl
@[simp] theorem State.withSlot_slot (x : Mailbox) : (s.withSlot x).slot = x := rfl
@[simp] theorem State.withSlot_walk (x : Mailbox) : (s.withSlot x).walk = s.walk := rfl
@[simp] theorem State.withSlot_fault (x : Mailbox) : (s.withSlot x).fault = s.fault := rfl
@[simp] theorem State.withSlot_locks (x : Mailbox) : (s.withSlot x).locks = s.locks := rfl
@[simp] theorem State.withSlot_mem (x : Mailbox) : (s.withSlot x).mem = s.mem := rfl
@[simp] theorem State.withSlot_devices (x : Mailbox) : (s.withSlot x).devices = s.devices := rfl
@[simp] theorem State.withSlot_inbox (x : Mailbox) : (s.withSlot x).inbox = s.inbox := rfl
@[simp] theorem State.withSlot_rdata (x : Mailbox) : (s.withSlot x).rdata = s.rdata := rfl
@[simp] theorem State.withSlot_events (x : Mailbox) : (s.withSlot x).events = s.events := rfl
@[simp] theorem State.withSlot_freeCount (x : Mailbox) : (s.withSlot x).freeCount = s.freeCount := rfl

@[simp] theorem State.withSlot_sel (x : Mailbox) : (s.withSlot x).sel = s.sel := rfl
@[simp] theorem State.withSlot_selCd (x : Mailbox) : (s.withSlot x).selCd = s.selCd := rfl
@[simp] theorem State.withSlot_selCfg (x : Mailbox) : (s.withSlot x).selCfg = s.selCfg := rfl
@[simp] theorem State.withSlot_selDevice (x : Mailbox) : (s.withSlot x).selDevice = s.selDevice := rfl

/-! ## emit -/

@[simp] theorem State.emit_cfg (e : Event) : (s.emit e).cfg = s.cfg := rfl
@[simp] theorem State.emit_selectedDrive (e : Event) : (s.emit e).selectedDrive = s.selectedDrive := rfl
@[simp] theorem State.emit_drives (e : Event) : (s.emit e).drives = s.drives := rfl
@[simp] theorem State.emit_cds (e : Event) : (s.emit e).cds = s.cds := rfl
@[simp] theorem State.emit_bm (e : Event) : (s.emit e).bm = s.bm := rfl
@[simp] theorem State.emit_irqPending (e : Event) : (s.emit e).irqPending = s.irqPending := rfl
@[simp] theorem State.emit_irqLine (e : Event) : (s.emit e).irqLine = s.irqLine := rfl
@[simp] theorem State.emit_slot (e : Event) : (s.emit e).slot = s.slot := rfl
@[simp] theorem State.emit_walk (e : Event) : (s.emit e).walk = s.walk := rfl
@[simp] theorem State.emit_fault (e : Event) : (s.emit e).fault = s.fault := rfl
@[simp] theorem State.emit_locks (e : Event) : (s.emit e).locks = s.locks := rfl
@[simp] theorem State.emit_mem (e : Event) : (s.emit e).mem = s.mem := rfl
@[simp] theorem State.emit_devices (e : Event) : (s.emit e).devices = s.devices := rfl
@[simp] theorem State.emit_inbox (e : Event) : (s.emit e).inbox = s.inbox := rfl
@[simp] theorem State.emit_rdata (e : Event) : (s.emit e).rdata = s.rdata := rfl
@[simp] theorem State.emit_events (e : Event) : (s.emit e).events = e :: s.events := rfl
@[simp] theorem State.emit_freeCount (e : Event) : (s.emit e).freeCount = s.freeCount := rfl

@[simp] theorem State.emit_sel (e : Event) : (s.emit e).sel = s.sel := rfl
@[simp] theorem State.emit_selCd (e : Event) : (s.emit e).selCd = s.selCd := rfl
@[simp] theorem State.emit_selCfg (e : Event) : (s.emit e).selCfg = s.selCfg := rfl
@[simp] theorem State.emit_selDevice (e : Event) : (s.emit e).selDevice = s.selDevice := rfl

/-! ## putBuffer -/

@[simp] theorem State.putBuffer_cfg (p : Nat) (bs : List Byte) : (s.putBuffer p bs).cfg = s.cfg := rfl
@[simp] theorem State.putBuffer_selectedDrive (p : Nat) (bs : List Byte) : (s.putBuffer p bs).selectedDrive = s.selectedDrive := rfl
@[simp] theorem State.putBuffer_drives (p : Nat) (bs : List Byte) : (s.putBuffer p bs).drives = s.drives.set s.selectedDrive { s.sel with buffer := bufferPut s.cfg.maxBlock s.sel.buffer p bs } := rfl
@[simp] theorem State.putBuffer_cds (p : Nat) (bs : List Byte) : (s.putBuffer p bs).cds = s.cds := rfl
@[simp] theorem State.putBuffer_bm (p : Nat) (bs : List Byte) : (s.putBuffer p bs).bm = s.bm := rfl
@[simp] theorem State.putBuffer_irqPending (p : Nat) (bs : List Byte) : (s.putBuffer p bs).irqPending = s.irqPending := rfl
@[simp] theorem State.putBuffer_irqLine (p : Nat) (bs : List Byte) : (s.putBuffer p bs).irqLine = s.irqLine := rfl
@[simp] theorem State.putBuffer_slot (p : Nat) (bs : List Byte) : (s.putBuffer p bs).slot = s.slot := rfl
@[simp] theorem State.putBuffer_walk (p : Nat) (bs : List Byte) : (s.putBuffer p bs).walk = s.walk := rfl
@[simp] theorem State.putBuffer_fault (p : Nat) (bs : List Byte) : (s.putBuffer p bs).fault = s.fault := rfl
@[simp] theorem State.putBuffer_locks (p : Nat) (bs : List Byte) : (s.putBuffer p bs).locks = s.locks := rfl
@[simp] theorem State.putBuffer_mem (p : Nat) (bs : List Byte) : (s.putBuffer p bs).mem = s.mem := rfl
@[simp] theorem State.putBuffer_devices (p : Nat) (bs : List Byte) : (s.putBuffer p bs).devices = s.devices := rfl
@[simp] theorem State.putBuffer_inbox (p : Nat) (bs : List Byte) : (s.putBuffer p bs).inbox = s.inbox := rfl
@[simp] theorem State.putBuffer_rdata (p : Nat) (bs : List Byte) : (s.putBuffer p bs).rdata = s.rdata := rfl
@[simp] theorem State.putBuffer_events (p : Nat) (bs : List Byte) : (s.putBuffer p bs).events = s.events := rfl
@[simp] theorem State.putBuffer_freeCount (p : Nat) (bs : List Byte) : (s.putBuffer p bs).freeCount = s.freeCount := rfl

@[simp] theorem State.putBuffer_sel (p : Nat) (bs : List Byte) :
    (s.putBuffer p bs).sel = { s.sel with buffer := bufferPut s.cfg.maxBlock s.sel.buffer p bs } := Pair.get_set_same _ _ _
@[simp] theorem State.putBuffer_selCd (p : Nat) (bs : List Byte) : (s.putBuffer p bs).selCd = s.selCd := rfl
@[simp] theorem State.putBuffer_selCfg (p : Nat) (bs : List Byte) :
    (s.putBuffer p bs).selCfg = s.selCfg := rfl
@[simp] theorem State.putBuffer_selDevice (p : Nat) (bs : List Byte) :
    (s.putBuffer p bs).selDevice = s.selDevice := rfl

/-! ## returns -/

@[simp] theorem State.returns_cfg (v : Word) : (s.returns v).cfg = s.cfg := rfl
@[simp] theorem State.returns_selectedDrive (v : Word) : (s.returns v).selectedDrive = s.selectedDrive := rfl
@[simp] theorem State.returns_drives (v : Word) : (s.returns v).drives = s.drives := rfl
@[simp] theorem State.returns_cds (v : Word) : (s.returns v).cds = s.cds := rfl
@[simp] theorem State.returns_bm (v : Word) : (s.returns v).bm = s.bm := rfl
@[simp] theorem State.returns_irqPending (v : Word) : (s.returns v).irqPending = s.irqPending := rfl
@[simp] theorem State.returns_irqLine (v : Word) : (s.returns v).irqLine = s.irqLine := rfl
@[simp] theorem State.returns_slot (v : Word) : (s.returns v).slot = s.slot := rfl
@[simp] theorem State.returns_walk (v : Word) : (s.returns v).walk = s.walk := rfl
@[simp] theorem State.returns_fault (v : Word) : (s.returns v).fault = s.fault := rfl
@[simp] theorem State.returns_locks (v : Word) : (s.returns v).locks = s.locks := rfl
@[simp] theorem State.returns_mem (v : Word) : (s.returns v).mem = s.mem := rfl
@[simp] theorem State.returns_devices (v : Word) : (s.returns v).devices = s.devices := rfl
@[simp] theorem State.returns_inbox (v : Word) : (s.returns v).inbox = s.inbox := rfl
@[simp] theorem State.returns_rdata (v : Word) : (s.returns v).rdata = v := rfl
@[simp] theorem State.returns_events (v : Word) : (s.returns v).events = s.events := rfl
@[simp] theorem State.returns_freeCount (v : Word) : (s.returns v).freeCount = s.freeCount := rfl

@[simp] theorem State.returns_sel (v : Word) : (s.returns v).sel = s.sel := rfl
@[simp] theorem State.returns_selCd (v : Word) : (s.returns v).selCd = s.selCd := rfl
@[simp] theorem State.returns_selCfg (v : Word) : (s.returns v).selCfg = s.selCfg := rfl
@[simp] theorem State.returns_selDevice (v : Word) : (s.returns v).selDevice = s.selDevice := rfl

/-! ## returnsFree -/

@[simp] theorem State.returnsFree_cfg (n : Nat) : (s.returnsFree n).cfg = s.cfg := rfl
@[simp] theorem State.returnsFree_selectedDrive (n : Nat) : (s.returnsFree n).selectedDrive = s.selectedDrive := rfl
@[simp] theorem State.returnsFree_drives (n : Nat) : (s.returnsFree n).drives = s.drives := rfl
@[simp] theorem State.returnsFree_cds (n : Nat) : (s.returnsFree n).cds = s.cds := rfl
@[simp] theorem State.returnsFree_bm (n : Nat) : (s.returnsFree n).bm = s.bm := rfl
@[simp] theorem State.returnsFree_irqPending (n : Nat) : (s.returnsFree n).irqPending = s.irqPending := rfl
@[simp] theorem State.returnsFree_irqLine (n : Nat) : (s.returnsFree n).irqLine = s.irqLine := rfl
@[simp] theorem State.returnsFree_slot (n : Nat) : (s.returnsFree n).slot = s.slot := rfl
@[simp] theorem State.returnsFree_walk (n : Nat) : (s.returnsFree n).walk = s.walk := rfl
@[simp] theorem State.returnsFree_fault (n : Nat) : (s.returnsFree n).fault = s.fault := rfl
@[simp] theorem State.returnsFree_locks (n : Nat) : (s.returnsFree n).locks = s.locks := rfl
@[simp] theorem State.returnsFree_mem (n : Nat) : (s.returnsFree n).mem = s.mem := rfl
@[simp] theorem State.returnsFree_devices (n : Nat) : (s.returnsFree n).devices = s.devices := rfl
@[simp] theorem State.returnsFree_inbox (n : Nat) : (s.returnsFree n).inbox = s.inbox := rfl
@[simp] theorem State.returnsFree_rdata (n : Nat) : (s.returnsFree n).rdata = lowBytes n (Config.freeRead s.freeCount) := rfl
@[simp] theorem State.returnsFree_events (n : Nat) : (s.returnsFree n).events = s.events := rfl
@[simp] theorem State.returnsFree_freeCount (n : Nat) : (s.returnsFree n).freeCount = s.freeCount + 1 := rfl

@[simp] theorem State.returnsFree_sel (n : Nat) : (s.returnsFree n).sel = s.sel := rfl
@[simp] theorem State.returnsFree_selCd (n : Nat) : (s.returnsFree n).selCd = s.selCd := rfl
@[simp] theorem State.returnsFree_selCfg (n : Nat) : (s.returnsFree n).selCfg = s.selCfg := rfl
@[simp] theorem State.returnsFree_selDevice (n : Nat) : (s.returnsFree n).selDevice = s.selDevice := rfl

/-! ## pop -/

@[simp] theorem State.pop_cfg : s.pop.cfg = s.cfg := rfl
@[simp] theorem State.pop_selectedDrive : s.pop.selectedDrive = s.selectedDrive := rfl
@[simp] theorem State.pop_drives : s.pop.drives = s.drives := rfl
@[simp] theorem State.pop_cds : s.pop.cds = s.cds := rfl
@[simp] theorem State.pop_bm : s.pop.bm = s.bm := rfl
@[simp] theorem State.pop_irqPending : s.pop.irqPending = s.irqPending := rfl
@[simp] theorem State.pop_irqLine : s.pop.irqLine = s.irqLine := rfl
@[simp] theorem State.pop_slot : s.pop.slot = s.slot := rfl
@[simp] theorem State.pop_walk : s.pop.walk = s.walk := rfl
@[simp] theorem State.pop_fault : s.pop.fault = s.fault := rfl
@[simp] theorem State.pop_locks : s.pop.locks = s.locks := rfl
@[simp] theorem State.pop_mem : s.pop.mem = s.mem := rfl
@[simp] theorem State.pop_devices : s.pop.devices = s.devices := rfl
@[simp] theorem State.pop_inbox : s.pop.inbox = s.inbox.tail := rfl
@[simp] theorem State.pop_rdata : s.pop.rdata = s.rdata := rfl
@[simp] theorem State.pop_events : s.pop.events = s.events := rfl
@[simp] theorem State.pop_freeCount : s.pop.freeCount = s.freeCount := rfl

@[simp] theorem State.pop_sel : s.pop.sel = s.sel := rfl
@[simp] theorem State.pop_selCd : s.pop.selCd = s.selCd := rfl
@[simp] theorem State.pop_selCfg : s.pop.selCfg = s.selCfg := rfl
@[simp] theorem State.pop_selDevice : s.pop.selDevice = s.selDevice := rfl

/-! ## An update after itself -/

@[simp] theorem State.withDrive_withDrive (x y : Drive) : (s.withDrive x).withDrive y = s.withDrive y := by
  simp [State.withDrive]

@[simp] theorem State.withCd_withCd (x y : CdRom) : (s.withCd x).withCd y = s.withCd y := by
  simp [State.withCd]

@[simp] theorem State.withBm_withBm (x y : BusMaster) : (s.withBm x).withBm y = s.withBm y := rfl

@[simp] theorem State.withWalk_withWalk (x y : Walk) : (s.withWalk x).withWalk y = s.withWalk y := rfl

@[simp] theorem State.withSlot_withSlot (x y : Mailbox) : (s.withSlot x).withSlot y = s.withSlot y := rfl

@[simp] theorem State.withDrive_self : s.withDrive s.sel = s := by
  simp [State.withDrive, State.sel]

/-! ## The drive that is not selected -/

theorem State.withDrive_other (x : Drive) {d : DriveId} (h : d ≠ s.selectedDrive) :
    (s.withDrive x).drives.get d = s.drives.get d := Pair.get_set_other _ _ h

theorem State.withCd_other (x : CdRom) {d : DriveId} (h : d ≠ s.selectedDrive) :
    (s.withCd x).cds.get d = s.cds.get d := Pair.get_set_other _ _ h

/-! ## Outcomes -/

@[simp] theorem andThen_next (k : State → Result) : andThen (.next s) k = k s := rfl

@[simp] theorem andThen_fault (f : Fault) (k : State → Result) : andThen (.fault f) k = .fault f := rfl

@[simp] theorem andThen_refused (r : Refusal) (k : State → Result) : andThen (.refused r) k = .refused r := rfl

/-- A sequence answers a next state exactly when both parts do. -/
theorem andThen_eq_next {r : Result} {k : State → Result} {t : State} :
    andThen r k = .next t ↔ ∃ m, r = .next m ∧ k m = .next t := by
  cases r <;> simp [andThen]

/-- `popped` answers a next state exactly when the item does, and takes the item from the queue. -/
theorem popped_eq_next {r : Result} {t : State} : popped r = .next t ↔ ∃ m, r = .next m ∧ t = m.pop := by
  rw [popped, andThen_eq_next]
  simp [eq_comm]

end Machine
end Sys2Proof
end

