-- ==== Sys2Proof/Laws/Ops.lean ====
section
/-!
SUPPORT. For each shared operation, what it can do, said once: the interrupt logic, the device calls, the error
classes, the units, the mailbox and the tests every access starts with.
-/

namespace Sys2Proof.Machine

variable (s : State)

/-! ## The interrupt logic -/

/-- A raise leaves the state as it is, or sets the pending bit and the line and emits one event. -/
theorem raiseInterrupt_cases :
    (interruptGated s = true ∧ raiseInterrupt s = s) ∨
    (interruptGated s = false ∧
      raiseInterrupt s = { s with irqPending := true, irqLine := true, events := .irqRaise :: s.events }) := by
  unfold raiseInterrupt
  cases interruptGated s <;> simp

/-- A raise keeps line and pending bit equal. -/
theorem raiseInterrupt_line (h : s.irqLine = s.irqPending) :
    (raiseInterrupt s).irqLine = (raiseInterrupt s).irqPending := by
  unfold raiseInterrupt; split
  · exact h
  · rfl

@[simp] theorem raiseInterrupt_cfg : (raiseInterrupt s).cfg = s.cfg := by
  unfold raiseInterrupt; split <;> rfl
@[simp] theorem raiseInterrupt_selectedDrive : (raiseInterrupt s).selectedDrive = s.selectedDrive := by
  unfold raiseInterrupt; split <;> rfl
@[simp] theorem raiseInterrupt_drives : (raiseInterrupt s).drives = s.drives := by
  unfold raiseInterrupt; split <;> rfl
@[simp] theorem raiseInterrupt_cds : (raiseInterrupt s).cds = s.cds := by
  unfold raiseInterrupt; split <;> rfl
@[simp] theorem raiseInterrupt_bm : (raiseInterrupt s).bm = s.bm := by
  unfold raiseInterrupt; split <;> rfl
@[simp] theorem raiseInterrupt_slot : (raiseInterrupt s).slot = s.slot := by
  unfold raiseInterrupt; split <;> rfl
@[simp] theorem raiseInterrupt_walk : (raiseInterrupt s).walk = s.walk := by
  unfold raiseInterrupt; split <;> rfl
@[simp] theorem raiseInterrupt_fault : (raiseInterrupt s).fault = s.fault := by
  unfold raiseInterrupt; split <;> rfl
@[simp] theorem raiseInterrupt_locks : (raiseInterrupt s).locks = s.locks := by
  unfold raiseInterrupt; split <;> rfl
@[simp] theorem raiseInterrupt_mem : (raiseInterrupt s).mem = s.mem := by
  unfold raiseInterrupt; split <;> rfl
@[simp] theorem raiseInterrupt_devices : (raiseInterrupt s).devices = s.devices := by
  unfold raiseInterrupt; split <;> rfl
@[simp] theorem raiseInterrupt_inbox : (raiseInterrupt s).inbox = s.inbox := by
  unfold raiseInterrupt; split <;> rfl
@[simp] theorem raiseInterrupt_rdata : (raiseInterrupt s).rdata = s.rdata := by
  unfold raiseInterrupt; split <;> rfl
@[simp] theorem raiseInterrupt_freeCount : (raiseInterrupt s).freeCount = s.freeCount := by
  unfold raiseInterrupt; split <;> rfl
@[simp] theorem raiseInterrupt_sel : (raiseInterrupt s).sel = s.sel := by
  unfold raiseInterrupt; split <;> rfl
@[simp] theorem raiseInterrupt_selCd : (raiseInterrupt s).selCd = s.selCd := by
  unfold raiseInterrupt; split <;> rfl
@[simp] theorem raiseInterrupt_selCfg : (raiseInterrupt s).selCfg = s.selCfg := by
  unfold raiseInterrupt; split <;> rfl
@[simp] theorem raiseInterrupt_selDevice : (raiseInterrupt s).selDevice = s.selDevice := by
  unfold raiseInterrupt; split <;> rfl

/-- A cancel leaves nothing pending. -/
@[simp] theorem cancelInterrupt_irqPending : (cancelInterrupt s).irqPending = false := rfl
@[simp] theorem cancelInterrupt_irqLine : (cancelInterrupt s).irqLine = false := rfl
@[simp] theorem cancelInterrupt_cfg : (cancelInterrupt s).cfg = s.cfg := rfl
@[simp] theorem cancelInterrupt_selectedDrive : (cancelInterrupt s).selectedDrive = s.selectedDrive := rfl
@[simp] theorem cancelInterrupt_drives : (cancelInterrupt s).drives = s.drives := rfl
@[simp] theorem cancelInterrupt_cds : (cancelInterrupt s).cds = s.cds := rfl
@[simp] theorem cancelInterrupt_bm : (cancelInterrupt s).bm = s.bm := rfl
@[simp] theorem cancelInterrupt_slot : (cancelInterrupt s).slot = s.slot := rfl
@[simp] theorem cancelInterrupt_walk : (cancelInterrupt s).walk = s.walk := rfl
@[simp] theorem cancelInterrupt_fault : (cancelInterrupt s).fault = s.fault := rfl
@[simp] theorem cancelInterrupt_locks : (cancelInterrupt s).locks = s.locks := rfl
@[simp] theorem cancelInterrupt_mem : (cancelInterrupt s).mem = s.mem := rfl
@[simp] theorem cancelInterrupt_devices : (cancelInterrupt s).devices = s.devices := rfl
@[simp] theorem cancelInterrupt_inbox : (cancelInterrupt s).inbox = s.inbox := rfl
@[simp] theorem cancelInterrupt_rdata : (cancelInterrupt s).rdata = s.rdata := rfl
@[simp] theorem cancelInterrupt_freeCount : (cancelInterrupt s).freeCount = s.freeCount := rfl
@[simp] theorem cancelInterrupt_sel : (cancelInterrupt s).sel = s.sel := rfl
@[simp] theorem cancelInterrupt_selCd : (cancelInterrupt s).selCd = s.selCd := rfl
@[simp] theorem cancelInterrupt_selCfg : (cancelInterrupt s).selCfg = s.selCfg := rfl
@[simp] theorem cancelInterrupt_selDevice : (cancelInterrupt s).selDevice = s.selDevice := rfl

/-! ## The device calls -/

@[simp] theorem deviceCall_cfg (c : DeviceCall) : (deviceCall c s).cfg = s.cfg := rfl
@[simp] theorem deviceCall_selectedDrive (c : DeviceCall) : (deviceCall c s).selectedDrive = s.selectedDrive := rfl
@[simp] theorem deviceCall_drives (c : DeviceCall) : (deviceCall c s).drives = s.drives := rfl
@[simp] theorem deviceCall_cds (c : DeviceCall) : (deviceCall c s).cds = s.cds := rfl
@[simp] theorem deviceCall_bm (c : DeviceCall) : (deviceCall c s).bm = s.bm := rfl
@[simp] theorem deviceCall_irqPending (c : DeviceCall) : (deviceCall c s).irqPending = s.irqPending := rfl
@[simp] theorem deviceCall_irqLine (c : DeviceCall) : (deviceCall c s).irqLine = s.irqLine := rfl
@[simp] theorem deviceCall_slot (c : DeviceCall) : (deviceCall c s).slot = s.slot := rfl
@[simp] theorem deviceCall_walk (c : DeviceCall) : (deviceCall c s).walk = s.walk := rfl
@[simp] theorem deviceCall_fault (c : DeviceCall) : (deviceCall c s).fault = s.fault := rfl
@[simp] theorem deviceCall_locks (c : DeviceCall) : (deviceCall c s).locks = s.locks := rfl
@[simp] theorem deviceCall_mem (c : DeviceCall) : (deviceCall c s).mem = s.mem := rfl
@[simp] theorem deviceCall_devices (c : DeviceCall) : (deviceCall c s).devices = s.devices := rfl
@[simp] theorem deviceCall_inbox (c : DeviceCall) : (deviceCall c s).inbox = s.inbox := rfl
@[simp] theorem deviceCall_rdata (c : DeviceCall) : (deviceCall c s).rdata = s.rdata := rfl
@[simp] theorem deviceCall_freeCount (c : DeviceCall) : (deviceCall c s).freeCount = s.freeCount := rfl
@[simp] theorem deviceCall_sel (c : DeviceCall) : (deviceCall c s).sel = s.sel := rfl
@[simp] theorem deviceCall_selCd (c : DeviceCall) : (deviceCall c s).selCd = s.selCd := rfl
@[simp] theorem deviceCall_selCfg (c : DeviceCall) : (deviceCall c s).selCfg = s.selCfg := rfl
@[simp] theorem deviceCall_selDevice (c : DeviceCall) : (deviceCall c s).selDevice = s.selDevice := rfl
@[simp] theorem deviceAcquire_cfg : (deviceAcquire s).cfg = s.cfg := rfl
@[simp] theorem deviceAcquire_selectedDrive : (deviceAcquire s).selectedDrive = s.selectedDrive := rfl
@[simp] theorem deviceAcquire_drives : (deviceAcquire s).drives = s.drives := rfl
@[simp] theorem deviceAcquire_cds : (deviceAcquire s).cds = s.cds := rfl
@[simp] theorem deviceAcquire_bm : (deviceAcquire s).bm = s.bm := rfl
@[simp] theorem deviceAcquire_irqPending : (deviceAcquire s).irqPending = s.irqPending := rfl
@[simp] theorem deviceAcquire_irqLine : (deviceAcquire s).irqLine = s.irqLine := rfl
@[simp] theorem deviceAcquire_slot : (deviceAcquire s).slot = s.slot := rfl
@[simp] theorem deviceAcquire_walk : (deviceAcquire s).walk = s.walk := rfl
@[simp] theorem deviceAcquire_fault : (deviceAcquire s).fault = s.fault := rfl
@[simp] theorem deviceAcquire_mem : (deviceAcquire s).mem = s.mem := rfl
@[simp] theorem deviceAcquire_devices : (deviceAcquire s).devices = s.devices := rfl
@[simp] theorem deviceAcquire_inbox : (deviceAcquire s).inbox = s.inbox := rfl
@[simp] theorem deviceAcquire_rdata : (deviceAcquire s).rdata = s.rdata := rfl
@[simp] theorem deviceAcquire_freeCount : (deviceAcquire s).freeCount = s.freeCount := rfl
@[simp] theorem deviceAcquire_sel : (deviceAcquire s).sel = s.sel := rfl
@[simp] theorem deviceAcquire_selCd : (deviceAcquire s).selCd = s.selCd := rfl
@[simp] theorem deviceAcquire_selCfg : (deviceAcquire s).selCfg = s.selCfg := rfl
@[simp] theorem deviceAcquire_selDevice : (deviceAcquire s).selDevice = s.selDevice := rfl
@[simp] theorem deviceRelease_cfg : (deviceRelease s).cfg = s.cfg := rfl
@[simp] theorem deviceRelease_selectedDrive : (deviceRelease s).selectedDrive = s.selectedDrive := rfl
@[simp] theorem deviceRelease_drives : (deviceRelease s).drives = s.drives := rfl
@[simp] theorem deviceRelease_cds : (deviceRelease s).cds = s.cds := rfl
@[simp] theorem deviceRelease_bm : (deviceRelease s).bm = s.bm := rfl
@[simp] theorem deviceRelease_irqPending : (deviceRelease s).irqPending = s.irqPending := rfl
@[simp] theorem deviceRelease_irqLine : (deviceRelease s).irqLine = s.irqLine := rfl
@[simp] theorem deviceRelease_slot : (deviceRelease s).slot = s.slot := rfl
@[simp] theorem deviceRelease_walk : (deviceRelease s).walk = s.walk := rfl
@[simp] theorem deviceRelease_fault : (deviceRelease s).fault = s.fault := rfl
@[simp] theorem deviceRelease_mem : (deviceRelease s).mem = s.mem := rfl
@[simp] theorem deviceRelease_devices : (deviceRelease s).devices = s.devices := rfl
@[simp] theorem deviceRelease_inbox : (deviceRelease s).inbox = s.inbox := rfl
@[simp] theorem deviceRelease_rdata : (deviceRelease s).rdata = s.rdata := rfl
@[simp] theorem deviceRelease_freeCount : (deviceRelease s).freeCount = s.freeCount := rfl
@[simp] theorem deviceRelease_sel : (deviceRelease s).sel = s.sel := rfl
@[simp] theorem deviceRelease_selCd : (deviceRelease s).selCd = s.selCd := rfl
@[simp] theorem deviceRelease_selCfg : (deviceRelease s).selCfg = s.selCfg := rfl
@[simp] theorem deviceRelease_selDevice : (deviceRelease s).selDevice = s.selDevice := rfl
@[simp] theorem deviceSeek_cfg (lba : Nat) : (deviceSeek lba s).cfg = s.cfg := rfl
@[simp] theorem deviceSeek_selectedDrive (lba : Nat) : (deviceSeek lba s).selectedDrive = s.selectedDrive := rfl
@[simp] theorem deviceSeek_drives (lba : Nat) : (deviceSeek lba s).drives = s.drives := rfl
@[simp] theorem deviceSeek_cds (lba : Nat) : (deviceSeek lba s).cds = s.cds := rfl
@[simp] theorem deviceSeek_bm (lba : Nat) : (deviceSeek lba s).bm = s.bm := rfl
@[simp] theorem deviceSeek_irqPending (lba : Nat) : (deviceSeek lba s).irqPending = s.irqPending := rfl
@[simp] theorem deviceSeek_irqLine (lba : Nat) : (deviceSeek lba s).irqLine = s.irqLine := rfl
@[simp] theorem deviceSeek_slot (lba : Nat) : (deviceSeek lba s).slot = s.slot := rfl
@[simp] theorem deviceSeek_walk (lba : Nat) : (deviceSeek lba s).walk = s.walk := rfl
@[simp] theorem deviceSeek_fault (lba : Nat) : (deviceSeek lba s).fault = s.fault := rfl
@[simp] theorem deviceSeek_locks (lba : Nat) : (deviceSeek lba s).locks = s.locks := rfl
@[simp] theorem deviceSeek_mem (lba : Nat) : (deviceSeek lba s).mem = s.mem := rfl
@[simp] theorem deviceSeek_inbox (lba : Nat) : (deviceSeek lba s).inbox = s.inbox := rfl
@[simp] theorem deviceSeek_rdata (lba : Nat) : (deviceSeek lba s).rdata = s.rdata := rfl
@[simp] theorem deviceSeek_freeCount (lba : Nat) : (deviceSeek lba s).freeCount = s.freeCount := rfl
@[simp] theorem deviceSeek_sel (lba : Nat) : (deviceSeek lba s).sel = s.sel := rfl
@[simp] theorem deviceSeek_selCd (lba : Nat) : (deviceSeek lba s).selCd = s.selCd := rfl
@[simp] theorem deviceSeek_selCfg (lba : Nat) : (deviceSeek lba s).selCfg = s.selCfg := rfl
@[simp] theorem deviceSetMode_cfg (n : Nat) : (deviceSetMode n s).cfg = s.cfg := rfl
@[simp] theorem deviceSetMode_selectedDrive (n : Nat) : (deviceSetMode n s).selectedDrive = s.selectedDrive := rfl
@[simp] theorem deviceSetMode_drives (n : Nat) : (deviceSetMode n s).drives = s.drives := rfl
@[simp] theorem deviceSetMode_cds (n : Nat) : (deviceSetMode n s).cds = s.cds := rfl
@[simp] theorem deviceSetMode_bm (n : Nat) : (deviceSetMode n s).bm = s.bm := rfl
@[simp] theorem deviceSetMode_irqPending (n : Nat) : (deviceSetMode n s).irqPending = s.irqPending := rfl
@[simp] theorem deviceSetMode_irqLine (n : Nat) : (deviceSetMode n s).irqLine = s.irqLine := rfl
@[simp] theorem deviceSetMode_slot (n : Nat) : (deviceSetMode n s).slot = s.slot := rfl
@[simp] theorem deviceSetMode_walk (n : Nat) : (deviceSetMode n s).walk = s.walk := rfl
@[simp] theorem deviceSetMode_fault (n : Nat) : (deviceSetMode n s).fault = s.fault := rfl
@[simp] theorem deviceSetMode_locks (n : Nat) : (deviceSetMode n s).locks = s.locks := rfl
@[simp] theorem deviceSetMode_mem (n : Nat) : (deviceSetMode n s).mem = s.mem := rfl
@[simp] theorem deviceSetMode_inbox (n : Nat) : (deviceSetMode n s).inbox = s.inbox := rfl
@[simp] theorem deviceSetMode_rdata (n : Nat) : (deviceSetMode n s).rdata = s.rdata := rfl
@[simp] theorem deviceSetMode_freeCount (n : Nat) : (deviceSetMode n s).freeCount = s.freeCount := rfl
@[simp] theorem deviceSetMode_sel (n : Nat) : (deviceSetMode n s).sel = s.sel := rfl
@[simp] theorem deviceSetMode_selCd (n : Nat) : (deviceSetMode n s).selCd = s.selCd := rfl
@[simp] theorem deviceSetMode_selCfg (n : Nat) : (deviceSetMode n s).selCfg = s.selCfg := rfl
@[simp] theorem deviceFlush_cfg : (deviceFlush s).cfg = s.cfg := rfl
@[simp] theorem deviceFlush_selectedDrive : (deviceFlush s).selectedDrive = s.selectedDrive := rfl
@[simp] theorem deviceFlush_drives : (deviceFlush s).drives = s.drives := rfl
@[simp] theorem deviceFlush_cds : (deviceFlush s).cds = s.cds := rfl
@[simp] theorem deviceFlush_bm : (deviceFlush s).bm = s.bm := rfl
@[simp] theorem deviceFlush_irqPending : (deviceFlush s).irqPending = s.irqPending := rfl
@[simp] theorem deviceFlush_irqLine : (deviceFlush s).irqLine = s.irqLine := rfl
@[simp] theorem deviceFlush_slot : (deviceFlush s).slot = s.slot := rfl
@[simp] theorem deviceFlush_walk : (deviceFlush s).walk = s.walk := rfl
@[simp] theorem deviceFlush_fault : (deviceFlush s).fault = s.fault := rfl
@[simp] theorem deviceFlush_locks : (deviceFlush s).locks = s.locks := rfl
@[simp] theorem deviceFlush_mem : (deviceFlush s).mem = s.mem := rfl
@[simp] theorem deviceFlush_devices : (deviceFlush s).devices = s.devices := rfl
@[simp] theorem deviceFlush_inbox : (deviceFlush s).inbox = s.inbox := rfl
@[simp] theorem deviceFlush_rdata : (deviceFlush s).rdata = s.rdata := rfl
@[simp] theorem deviceFlush_freeCount : (deviceFlush s).freeCount = s.freeCount := rfl
@[simp] theorem deviceFlush_sel : (deviceFlush s).sel = s.sel := rfl
@[simp] theorem deviceFlush_selCd : (deviceFlush s).selCd = s.selCd := rfl
@[simp] theorem deviceFlush_selCfg : (deviceFlush s).selCfg = s.selCfg := rfl
@[simp] theorem deviceFlush_selDevice : (deviceFlush s).selDevice = s.selDevice := rfl
@[simp] theorem deviceReadBlock_cfg (n : Nat) : (deviceReadBlock n s).1.cfg = s.cfg := by
  unfold deviceReadBlock; dsimp only; split <;> rfl
@[simp] theorem deviceReadBlock_selectedDrive (n : Nat) : (deviceReadBlock n s).1.selectedDrive = s.selectedDrive := by
  unfold deviceReadBlock; dsimp only; split <;> rfl
@[simp] theorem deviceReadBlock_drives (n : Nat) : (deviceReadBlock n s).1.drives = s.drives := by
  unfold deviceReadBlock; dsimp only; split <;> rfl
@[simp] theorem deviceReadBlock_cds (n : Nat) : (deviceReadBlock n s).1.cds = s.cds := by
  unfold deviceReadBlock; dsimp only; split <;> rfl
@[simp] theorem deviceReadBlock_bm (n : Nat) : (deviceReadBlock n s).1.bm = s.bm := by
  unfold deviceReadBlock; dsimp only; split <;> rfl
@[simp] theorem deviceReadBlock_irqPending (n : Nat) : (deviceReadBlock n s).1.irqPending = s.irqPending := by
  unfold deviceReadBlock; dsimp only; split <;> rfl
@[simp] theorem deviceReadBlock_irqLine (n : Nat) : (deviceReadBlock n s).1.irqLine = s.irqLine := by
  unfold deviceReadBlock; dsimp only; split <;> rfl
@[simp] theorem deviceReadBlock_slot (n : Nat) : (deviceReadBlock n s).1.slot = s.slot := by
  unfold deviceReadBlock; dsimp only; split <;> rfl
@[simp] theorem deviceReadBlock_walk (n : Nat) : (deviceReadBlock n s).1.walk = s.walk := by
  unfold deviceReadBlock; dsimp only; split <;> rfl
@[simp] theorem deviceReadBlock_fault (n : Nat) : (deviceReadBlock n s).1.fault = s.fault := by
  unfold deviceReadBlock; dsimp only; split <;> rfl
@[simp] theorem deviceReadBlock_locks (n : Nat) : (deviceReadBlock n s).1.locks = s.locks := by
  unfold deviceReadBlock; dsimp only; split <;> rfl
@[simp] theorem deviceReadBlock_mem (n : Nat) : (deviceReadBlock n s).1.mem = s.mem := by
  unfold deviceReadBlock; dsimp only; split <;> rfl
@[simp] theorem deviceReadBlock_inbox (n : Nat) : (deviceReadBlock n s).1.inbox = s.inbox := by
  unfold deviceReadBlock; dsimp only; split <;> rfl
@[simp] theorem deviceReadBlock_rdata (n : Nat) : (deviceReadBlock n s).1.rdata = s.rdata := by
  unfold deviceReadBlock; dsimp only; split <;> rfl
@[simp] theorem deviceReadBlock_freeCount (n : Nat) : (deviceReadBlock n s).1.freeCount = s.freeCount := by
  unfold deviceReadBlock; dsimp only; split <;> rfl
@[simp] theorem deviceReadBlock_sel (n : Nat) : (deviceReadBlock n s).1.sel = s.sel := by
  unfold deviceReadBlock; dsimp only; split <;> rfl
@[simp] theorem deviceReadBlock_selCd (n : Nat) : (deviceReadBlock n s).1.selCd = s.selCd := by
  unfold deviceReadBlock; dsimp only; split <;> rfl
@[simp] theorem deviceReadBlock_selCfg (n : Nat) : (deviceReadBlock n s).1.selCfg = s.selCfg := by
  unfold deviceReadBlock; dsimp only; split <;> rfl
@[simp] theorem deviceWriteBlock_cfg (bs : List Byte) : (deviceWriteBlock bs s).1.cfg = s.cfg := by
  unfold deviceWriteBlock; dsimp only; split <;> rfl
@[simp] theorem deviceWriteBlock_selectedDrive (bs : List Byte) : (deviceWriteBlock bs s).1.selectedDrive = s.selectedDrive := by
  unfold deviceWriteBlock; dsimp only; split <;> rfl
@[simp] theorem deviceWriteBlock_drives (bs : List Byte) : (deviceWriteBlock bs s).1.drives = s.drives := by
  unfold deviceWriteBlock; dsimp only; split <;> rfl
@[simp] theorem deviceWriteBlock_cds (bs : List Byte) : (deviceWriteBlock bs s).1.cds = s.cds := by
  unfold deviceWriteBlock; dsimp only; split <;> rfl
@[simp] theorem deviceWriteBlock_bm (bs : List Byte) : (deviceWriteBlock bs s).1.bm = s.bm := by
  unfold deviceWriteBlock; dsimp only; split <;> rfl
@[simp] theorem deviceWriteBlock_irqPending (bs : List Byte) : (deviceWriteBlock bs s).1.irqPending = s.irqPending := by
  unfold deviceWriteBlock; dsimp only; split <;> rfl
@[simp] theorem deviceWriteBlock_irqLine (bs : List Byte) : (deviceWriteBlock bs s).1.irqLine = s.irqLine := by
  unfold deviceWriteBlock; dsimp only; split <;> rfl
@[simp] theorem deviceWriteBlock_slot (bs : List Byte) : (deviceWriteBlock bs s).1.slot = s.slot := by
  unfold deviceWriteBlock; dsimp only; split <;> rfl
@[simp] theorem deviceWriteBlock_walk (bs : List Byte) : (deviceWriteBlock bs s).1.walk = s.walk := by
  unfold deviceWriteBlock; dsimp only; split <;> rfl
@[simp] theorem deviceWriteBlock_fault (bs : List Byte) : (deviceWriteBlock bs s).1.fault = s.fault := by
  unfold deviceWriteBlock; dsimp only; split <;> rfl
@[simp] theorem deviceWriteBlock_locks (bs : List Byte) : (deviceWriteBlock bs s).1.locks = s.locks := by
  unfold deviceWriteBlock; dsimp only; split <;> rfl
@[simp] theorem deviceWriteBlock_mem (bs : List Byte) : (deviceWriteBlock bs s).1.mem = s.mem := by
  unfold deviceWriteBlock; dsimp only; split <;> rfl
@[simp] theorem deviceWriteBlock_inbox (bs : List Byte) : (deviceWriteBlock bs s).1.inbox = s.inbox := by
  unfold deviceWriteBlock; dsimp only; split <;> rfl
@[simp] theorem deviceWriteBlock_rdata (bs : List Byte) : (deviceWriteBlock bs s).1.rdata = s.rdata := by
  unfold deviceWriteBlock; dsimp only; split <;> rfl
@[simp] theorem deviceWriteBlock_freeCount (bs : List Byte) : (deviceWriteBlock bs s).1.freeCount = s.freeCount := by
  unfold deviceWriteBlock; dsimp only; split <;> rfl
@[simp] theorem deviceWriteBlock_sel (bs : List Byte) : (deviceWriteBlock bs s).1.sel = s.sel := by
  unfold deviceWriteBlock; dsimp only; split <;> rfl
@[simp] theorem deviceWriteBlock_selCd (bs : List Byte) : (deviceWriteBlock bs s).1.selCd = s.selCd := by
  unfold deviceWriteBlock; dsimp only; split <;> rfl
@[simp] theorem deviceWriteBlock_selCfg (bs : List Byte) : (deviceWriteBlock bs s).1.selCfg = s.selCfg := by
  unfold deviceWriteBlock; dsimp only; split <;> rfl

/-- What `readBlockAt` does: four calls, the lock given back, the position after the block, and the block or SHORT. -/
theorem readBlockAt_eq (lba n : Nat) :
    readBlockAt lba n s =
      ({ s with
          locks := s.locks.set s.selectedDrive false
          devices := s.devices.set s.selectedDrive
            { s.selDevice with
              position := if nextIsShort s.selDevice then lba else lba + 1
              shorts := s.selDevice.shorts.tail }
          events :=
            .device s.selectedDrive .release :: .device s.selectedDrive (.readBlock n) ::
              .device s.selectedDrive (.seek lba) :: .device s.selectedDrive .acquire :: s.events },
        if nextIsShort s.selDevice then none else some (blockContent s.selectedDrive s.selDevice lba n)) := by
  have hs : nextIsShort { s.selDevice with position := lba } = nextIsShort s.selDevice := rfl
  have hb : blockContent s.selectedDrive { s.selDevice with position := lba } lba n =
      blockContent s.selectedDrive s.selDevice lba n := rfl
  simp only [readBlockAt, deviceReadBlock, deviceSeek, deviceAcquire, deviceRelease, deviceCall, State.emit_selDevice,
    State.withDevice_selDevice, State.withLock_selDevice, hs]
  cases nextIsShort s.selDevice
  · simp [State.emit, State.withLock, State.withDevice, State.selDevice, blockContent]
  · simp [State.emit, State.withLock, State.withDevice, State.selDevice]

/-- What `writeBlockAt` does. -/
theorem writeBlockAt_eq (lba : Nat) (bs : List Byte) :
    writeBlockAt lba bs s =
      ({ s with
          locks := s.locks.set s.selectedDrive false
          devices := s.devices.set s.selectedDrive
            { s.selDevice with
              position := if nextIsShort s.selDevice then lba else lba + 1
              blocks := if nextIsShort s.selDevice then s.selDevice.blocks else sparsePut s.selDevice.blocks lba bs
              shorts := s.selDevice.shorts.tail }
          events :=
            .device s.selectedDrive .release :: .device s.selectedDrive (.writeBlock bs.length) ::
              .device s.selectedDrive (.seek lba) :: .device s.selectedDrive .acquire :: s.events },
        !nextIsShort s.selDevice) := by
  have hs : nextIsShort { s.selDevice with position := lba } = nextIsShort s.selDevice := rfl
  simp only [writeBlockAt, deviceWriteBlock, deviceSeek, deviceAcquire, deviceRelease, deviceCall,
    State.emit_selDevice, State.withDevice_selDevice, State.withLock_selDevice, hs]
  cases nextIsShort s.selDevice
  · simp [State.emit, State.withLock, State.withDevice, State.selDevice]
  · simp [State.emit, State.withLock, State.withDevice, State.selDevice]

/-! ## The error classes -/

@[simp] theorem raiseError_cfg (c : ErrorClass) : (raiseError c s).cfg = s.cfg := by
  cases c <;> simp only [raiseError, keepCursor, raiseInterrupt] <;> (try split_ifs) <;> rfl
@[simp] theorem raiseError_selectedDrive (c : ErrorClass) : (raiseError c s).selectedDrive = s.selectedDrive := by
  cases c <;> simp only [raiseError, keepCursor, raiseInterrupt] <;> (try split_ifs) <;> rfl
@[simp] theorem raiseError_selCfg (c : ErrorClass) : (raiseError c s).selCfg = s.selCfg := by
  cases c <;> simp only [raiseError, keepCursor, raiseInterrupt] <;> (try split_ifs) <;> rfl
@[simp] theorem raiseError_slot (c : ErrorClass) : (raiseError c s).slot = s.slot := by
  cases c <;> simp only [raiseError, keepCursor, raiseInterrupt] <;> (try split_ifs) <;> rfl
@[simp] theorem raiseError_mem (c : ErrorClass) : (raiseError c s).mem = s.mem := by
  cases c <;> simp only [raiseError, keepCursor, raiseInterrupt] <;> (try split_ifs) <;> rfl
@[simp] theorem raiseError_devices (c : ErrorClass) : (raiseError c s).devices = s.devices := by
  cases c <;> simp only [raiseError, keepCursor, raiseInterrupt] <;> (try split_ifs) <;> rfl
@[simp] theorem raiseError_selDevice (c : ErrorClass) : (raiseError c s).selDevice = s.selDevice := by
  cases c <;> simp only [raiseError, keepCursor, raiseInterrupt] <;> (try split_ifs) <;> rfl
@[simp] theorem raiseError_inbox (c : ErrorClass) : (raiseError c s).inbox = s.inbox := by
  cases c <;> simp only [raiseError, keepCursor, raiseInterrupt] <;> (try split_ifs) <;> rfl
@[simp] theorem raiseError_rdata (c : ErrorClass) : (raiseError c s).rdata = s.rdata := by
  cases c <;> simp only [raiseError, keepCursor, raiseInterrupt] <;> (try split_ifs) <;> rfl
@[simp] theorem raiseError_freeCount (c : ErrorClass) : (raiseError c s).freeCount = s.freeCount := by
  cases c <;> simp only [raiseError, keepCursor, raiseInterrupt] <;> (try split_ifs) <;> rfl

/-- An abort writes status, error, protocol state and cursor of the selected drive. -/
@[simp] theorem raiseError_abort_sel :
    (raiseError .abort s).sel =
      { s.sel with status := statusError, error := errorAbort, state := .idle, sectorPos := 0 } := by
  simp [raiseError]

/-- A packet error writes the cause codes of the selected drive. -/
@[simp] theorem raiseError_atapi_sel (key : BitVec 4) (asc : Byte) :
    (raiseError (.atapi key asc) s).sel =
      { s.sel with
        error := errorOfKey key
        status := statusError
        sectorCount := reasonComplete
        state := .idle
        sectorPos := 0 } := by
  simp [raiseError]

/-- A fatal condition sets the latch and nothing else. -/
theorem raiseError_fatal (r : FatalReason) : raiseError (.fatal r) s = { s with fault := some r } := rfl

/-! ## The tests every access starts with -/

@[simp] theorem hostAccess_live {s : State} (r : Result) (h : s.fault = none) : hostAccess s r = r := by
  simp [hostAccess, h]

theorem hostAccess_faulted {s : State} (r : Result) {x : FatalReason} (h : s.fault = some x) :
    hostAccess s r = .fault (.blockFaulted x) := by
  simp [hostAccess, h]

@[simp] theorem hostWrite_accepting {s : State} (r : Result) (h : s.fault = none) (hs : s.slot.op = .idle) :
    hostWrite s r = r := by
  simp [hostWrite, slotBusy, h, hs]

theorem hostWrite_dropped {s : State} (r : Result) (h : s.fault = none) (hs : s.slot.op ≠ .idle) :
    hostWrite s r = .next s := by
  simp [hostWrite, slotBusy, h, hs]

/-- A meaning behind the first test answers a next state only on a live block, and then as the meaning does. -/
theorem hostAccess_eq_next {s t : State} {r : Result} :
    hostAccess s r = .next t ↔ s.fault = none ∧ r = .next t := by
  unfold hostAccess; split <;> simp_all

/-- A write either runs or is dropped. -/
theorem hostWrite_eq_next {s t : State} {r : Result} :
    hostWrite s r = .next t ↔
      s.fault = none ∧ ((s.slot.op = .idle ∧ r = .next t) ∨ (s.slot.op ≠ .idle ∧ t = s)) := by
  rw [hostWrite, hostAccess_eq_next]
  by_cases h : s.slot.op = .idle
  · simp [slotBusy, h]
  · have hc : s = t ↔ t = s := eq_comm
    simp [slotBusy, h, hc]

/-- The dispatcher of a known opcode: the four ways a command write ends. -/
theorem dispatchCommand_eq_next {v : Byte} {ps : List Protocol} {b : Bool} {run : State → Result} {s t : State}
    (h : dispatchCommand v ps b run s = .next t) :
    s.fault = none ∧
      ((s.slot.op ≠ .idle ∧ t = s) ∨
        (s.slot.op = .idle ∧ s.selCfg.installed = false ∧ t = raiseError .absent s) ∨
        (s.slot.op = .idle ∧ s.selCfg.installed = true ∧ ps.contains s.selCfg.protocol = false ∧
          t = raiseError .abort (acceptCommand v s)) ∨
        (s.slot.op = .idle ∧ s.selCfg.installed = true ∧ ps.contains s.selCfg.protocol = true ∧
          s.cfg.defer = true ∧ b = true ∧ t = deferCommand v (acceptCommand v s)) ∨
        (s.slot.op = .idle ∧ s.selCfg.installed = true ∧ ps.contains s.selCfg.protocol = true ∧
          (s.cfg.defer && b) = false ∧ run (acceptCommand v s) = .next t)) := by
  unfold dispatchCommand at h
  rw [hostWrite_eq_next] at h
  obtain ⟨hf, ⟨hi, h⟩ | ⟨hi, rfl⟩⟩ := h
  · refine ⟨hf, ?_⟩
    have hcfg : (acceptCommand v s).selCfg = s.selCfg := rfl
    have hd : (acceptCommand v s).cfg = s.cfg := rfl
    simp only [hcfg, hd] at h
    split at h
    · next hn => exact .inr (.inl ⟨hi, by simpa using hn, by simpa [eq_comm] using h⟩)
    · next hn =>
      have hn' : s.selCfg.installed = true := by simpa using hn
      split at h
      · next hp => exact .inr (.inr (.inl ⟨hi, hn', by simpa using hp, by simpa [eq_comm] using h⟩))
      · next hp =>
        have hp' : ps.contains s.selCfg.protocol = true := by simpa using hp
        split at h
        · next hb =>
          simp only [Bool.and_eq_true] at hb
          exact .inr (.inr (.inr (.inl ⟨hi, hn', hp', hb.1, hb.2, by simpa [eq_comm] using h⟩)))
        · next hb => exact .inr (.inr (.inr (.inr ⟨hi, hn', hp', by simpa using hb, h⟩)))
  · exact ⟨hf, .inl ⟨hi, rfl⟩⟩

/-- A delivered packet runs its handler on the received packet, or is ignored. -/
theorem deliverPacket_eq_next {bytes : List Byte} {body : State → Result} {s t : State}
    (h : deliverPacket bytes body s = .next t) :
    s.fault = none ∧
      (t = s ∨
        (s.slot.op = .idle ∧ packetOpen s = true ∧
          body ((s.putBuffer 0 bytes).withDrive { (s.putBuffer 0 bytes).sel with sectorPos := 0 }) = .next t)) := by
  unfold deliverPacket at h
  rw [hostWrite_eq_next] at h
  obtain ⟨hf, ⟨hi, h⟩ | ⟨-, rfl⟩⟩ := h
  · refine ⟨hf, ?_⟩
    split at h
    · next hp => exact .inr ⟨hi, hp, h⟩
    · exact .inl (by simpa [eq_comm] using h)
  · exact ⟨hf, .inl rfl⟩

end Sys2Proof.Machine
end

