-- ==== Sys2Proof/Laws/Frames.lean ====
section
/-!
SUPPORT. What every operation of the selected drive leaves alone, said once for each: the parameters, the queue, the
selection, the other drive's state, and the two facts that stay true (the line equals the pending bit, the memory is
canonical). The relation composes, so a meaning's frame is the chain of its operations' frames.
-/

namespace Sys2Proof.Machine

/-- `t` is reached from `s` by work on the selected drive, the channel registers and guest memory only. -/
structure OwnWork (s t : State) : Prop where
  cfg : t.cfg = s.cfg
  inbox : t.inbox = s.inbox
  selected : t.selectedDrive = s.selectedDrive
  other : ∀ d, d ≠ s.selectedDrive → t.drives.get d = s.drives.get d ∧ t.cds.get d = s.cds.get d ∧
    t.devices.get d = s.devices.get d ∧ t.locks.get d = s.locks.get d
  line : s.irqLine = s.irqPending → t.irqLine = t.irqPending
  memory : Memory.wf s.mem = true → Memory.wf t.mem = true

/-- Doing nothing is such work. -/
theorem OwnWork.refl (s : State) : OwnWork s s := ⟨rfl, rfl, rfl, fun _ _ => ⟨rfl, rfl, rfl, rfl⟩, id, id⟩

/-- Such work composes. -/
theorem OwnWork.trans {s t u : State} (h : OwnWork s t) (k : OwnWork t u) : OwnWork s u where
  cfg := k.cfg.trans h.cfg
  inbox := k.inbox.trans h.inbox
  selected := k.selected.trans h.selected
  other := fun d hd => by
    have a := h.other d hd
    have b := k.other d (by rw [h.selected]; exact hd)
    exact ⟨b.1.trans a.1, b.2.1.trans a.2.1, b.2.2.1.trans a.2.2.1, b.2.2.2.trans a.2.2.2⟩
  line := fun e => k.line (h.line e)
  memory := fun e => k.memory (h.memory e)

/-- A component of the slot that was not set. -/
theorem Pair.get_set_other {α : Type} (p : Pair α) {d e : DriveId} (x : α) (h : d ≠ e) :
    (p.set e x).get d = p.get d := by
  cases d <;> cases e <;> first | rfl | exact absurd rfl h

/-! ## The updates -/

theorem OwnWork.withDrive (s : State) (x : Drive) : OwnWork s (s.withDrive x) :=
  ⟨rfl, rfl, rfl, fun _ h => ⟨Pair.get_set_other _ _ h, rfl, rfl, rfl⟩, id, id⟩

theorem OwnWork.withCd (s : State) (x : CdRom) : OwnWork s (s.withCd x) :=
  ⟨rfl, rfl, rfl, fun _ h => ⟨rfl, Pair.get_set_other _ _ h, rfl, rfl⟩, id, id⟩

theorem OwnWork.withDevice (s : State) (x : Device) : OwnWork s (s.withDevice x) :=
  ⟨rfl, rfl, rfl, fun _ h => ⟨rfl, rfl, Pair.get_set_other _ _ h, rfl⟩, id, id⟩

theorem OwnWork.withLock (s : State) (b : Bool) : OwnWork s (s.withLock b) :=
  ⟨rfl, rfl, rfl, fun _ h => ⟨rfl, rfl, rfl, Pair.get_set_other _ _ h⟩, id, id⟩

theorem OwnWork.withBm (s : State) (x : BusMaster) : OwnWork s (s.withBm x) :=
  ⟨rfl, rfl, rfl, fun _ _ => ⟨rfl, rfl, rfl, rfl⟩, id, id⟩

theorem OwnWork.withWalk (s : State) (x : Walk) : OwnWork s (s.withWalk x) :=
  ⟨rfl, rfl, rfl, fun _ _ => ⟨rfl, rfl, rfl, rfl⟩, id, id⟩

theorem OwnWork.withSlot (s : State) (x : Mailbox) : OwnWork s (s.withSlot x) :=
  ⟨rfl, rfl, rfl, fun _ _ => ⟨rfl, rfl, rfl, rfl⟩, id, id⟩

theorem OwnWork.emit (s : State) (e : Event) : OwnWork s (s.emit e) :=
  ⟨rfl, rfl, rfl, fun _ _ => ⟨rfl, rfl, rfl, rfl⟩, id, id⟩

theorem OwnWork.putBuffer (s : State) (p : Nat) (bs : List Byte) : OwnWork s (s.putBuffer p bs) :=
  OwnWork.withDrive _ _

theorem OwnWork.returns (s : State) (v : Word) : OwnWork s (s.returns v) :=
  ⟨rfl, rfl, rfl, fun _ _ => ⟨rfl, rfl, rfl, rfl⟩, id, id⟩

theorem OwnWork.returnsFree (s : State) (n : Nat) : OwnWork s (s.returnsFree n) :=
  ⟨rfl, rfl, rfl, fun _ _ => ⟨rfl, rfl, rfl, rfl⟩, id, id⟩

/-! ## The interrupt logic -/

theorem OwnWork.raiseInterrupt (s : State) : OwnWork s (raiseInterrupt s) := by
  unfold Machine.raiseInterrupt
  split
  · exact OwnWork.refl s
  · exact ⟨rfl, rfl, rfl, fun _ _ => ⟨rfl, rfl, rfl, rfl⟩, fun _ => rfl, id⟩

theorem OwnWork.cancelInterrupt (s : State) : OwnWork s (cancelInterrupt s) :=
  ⟨rfl, rfl, rfl, fun _ _ => ⟨rfl, rfl, rfl, rfl⟩, fun _ => rfl, id⟩

/-! ## The device calls -/

theorem OwnWork.deviceCall (s : State) (c : DeviceCall) : OwnWork s (deviceCall c s) := OwnWork.emit _ _

theorem OwnWork.deviceAcquire (s : State) : OwnWork s (deviceAcquire s) :=
  (OwnWork.withLock s true).trans (OwnWork.deviceCall _ _)

theorem OwnWork.deviceRelease (s : State) : OwnWork s (deviceRelease s) :=
  (OwnWork.withLock s false).trans (OwnWork.deviceCall _ _)

theorem OwnWork.deviceSeek (s : State) (lba : Nat) : OwnWork s (deviceSeek lba s) :=
  (OwnWork.withDevice s _).trans (OwnWork.deviceCall _ _)

theorem OwnWork.deviceSetMode (s : State) (n : Nat) : OwnWork s (deviceSetMode n s) :=
  (OwnWork.withDevice s _).trans (OwnWork.deviceCall _ _)

theorem OwnWork.deviceFlush (s : State) : OwnWork s (deviceFlush s) := OwnWork.deviceCall _ _

theorem OwnWork.deviceReadBlock (s : State) (n : Nat) : OwnWork s (deviceReadBlock n s).1 := by
  unfold Machine.deviceReadBlock
  dsimp only
  split <;> exact (OwnWork.withDevice s _).trans (OwnWork.deviceCall _ _)

theorem OwnWork.deviceWriteBlock (s : State) (bs : List Byte) : OwnWork s (deviceWriteBlock bs s).1 := by
  unfold Machine.deviceWriteBlock
  dsimp only
  split <;> exact (OwnWork.withDevice s _).trans (OwnWork.deviceCall _ _)

theorem OwnWork.readBlockAt (s : State) (lba n : Nat) : OwnWork s (readBlockAt lba n s).1 :=
  (((OwnWork.deviceAcquire s).trans (OwnWork.deviceSeek _ lba)).trans (OwnWork.deviceReadBlock _ n)).trans
    (OwnWork.deviceRelease _)

theorem OwnWork.writeBlockAt (s : State) (lba : Nat) (bs : List Byte) : OwnWork s (writeBlockAt lba bs s).1 :=
  (((OwnWork.deviceAcquire s).trans (OwnWork.deviceSeek _ lba)).trans (OwnWork.deviceWriteBlock _ bs)).trans
    (OwnWork.deviceRelease _)

/-! ## The error classes -/

theorem OwnWork.keepCursor (s : State) (w : Walker) : OwnWork s (keepCursor w s) := by
  unfold Machine.keepCursor
  split
  · exact OwnWork.withCd _ _
  · exact OwnWork.withDrive _ _

theorem OwnWork.raiseError (s : State) (c : ErrorClass) : OwnWork s (raiseError c s) := by
  cases c with
  | abort => exact (OwnWork.withDrive s _).trans (OwnWork.raiseInterrupt _)
  | atapi key asc =>
    exact ((OwnWork.withCd s _).trans (OwnWork.withDrive _ _)).trans (OwnWork.raiseInterrupt _)
  | dma w =>
    exact ((((OwnWork.deviceRelease s).trans (OwnWork.withBm _ _)).trans (OwnWork.keepCursor _ w)).trans
      (OwnWork.withDrive _ _)).trans (OwnWork.withWalk _ _)
  | fatal r => exact ⟨rfl, rfl, rfl, fun _ _ => ⟨rfl, rfl, rfl, rfl⟩, id, id⟩
  | access => exact OwnWork.withDrive s _
  | absent => exact OwnWork.withDrive s _

/-! ## Units and sectors -/

theorem OwnWork.loadUnit (s : State) : OwnWork s (loadUnit s).state := by
  unfold Machine.loadUnit
  split
  · have h := OwnWork.readBlockAt s (makeLogical s.selCfg s.sel) 512
    split
    · next heq =>
      rw [heq] at h
      exact (h.trans (OwnWork.putBuffer _ _ _)).trans (OwnWork.withDrive _ _)
    · next heq =>
      rw [heq] at h
      exact h.trans (OwnWork.raiseError _ .abort)
  · exact OwnWork.raiseError _ .abort

theorem OwnWork.storeUnit (s : State) : OwnWork s (storeUnit s).state := by
  unfold Machine.storeUnit
  split
  · have h := OwnWork.writeBlockAt s (makeLogical s.selCfg s.sel) (bufferSlice s.sel.buffer 0 512)
    split
    · next heq =>
      rw [heq] at h
      exact h
    · next heq =>
      rw [heq] at h
      exact h.trans (OwnWork.raiseError _ .abort)
  · exact OwnWork.raiseError _ .abort

theorem OwnWork.loadNextCdSector (s : State) : OwnWork s (loadNextCdSector s).state := by
  unfold Machine.loadNextCdSector
  have h := OwnWork.readBlockAt s s.selCd.nextLba.toNat s.selCd.sectorSize
  split
  · next heq =>
    rw [heq] at h
    exact h.trans (OwnWork.raiseError _ .abort)
  · next heq =>
    rw [heq] at h
    exact ((h.trans (OwnWork.putBuffer _ _ _)).trans (OwnWork.withDrive _ _)).trans (OwnWork.withCd _ _)

/-- Going on after an attempt, where the continuation is such work. -/
theorem OwnWork.andThen {s : State} {a : Attempt} (h : OwnWork s a.state) {k : State → State}
    (hk : ∀ u, OwnWork u (k u)) : OwnWork s (a.andThen k) := by
  cases a with
  | done u => exact h.trans (hk u)
  | aborted u => exact h

theorem OwnWork.pushSlot (s : State) (m : Mailbox) : OwnWork s (pushSlot m s) :=
  (OwnWork.withDrive s _).trans (OwnWork.withSlot _ _)

theorem OwnWork.freeSlot (s : State) : OwnWork s (freeSlot s) := OwnWork.withSlot _ _

theorem OwnWork.finishOperation (s : State) : OwnWork s (finishOperation s) := by
  unfold Machine.finishOperation
  split
  · exact OwnWork.freeSlot s
  · exact OwnWork.refl s

/-! ## The packet procedures -/

theorem OwnWork.atapiComplete (s : State) : OwnWork s (atapiComplete s) :=
  (OwnWork.withDrive s _).trans (OwnWork.raiseInterrupt _)

/-- The cursor stays inside its unit, or goes back to 0 at its end. -/
theorem wrapCursor_cases (s : State) :
    (s.sel.sectorPos < s.sel.unitSize ∧ wrapCursor s = s) ∨
      (s.sel.unitSize ≤ s.sel.sectorPos ∧ wrapCursor s = s.withDrive { s.sel with sectorPos := 0 }) := by
  unfold wrapCursor
  split
  · next h => exact .inr ⟨h, rfl⟩
  · next h => exact .inl ⟨by omega, rfl⟩

theorem OwnWork.wrapCursor (s : State) : OwnWork s (wrapCursor s) := by
  obtain ⟨-, h⟩ | ⟨-, h⟩ := wrapCursor_cases s <;> rw [h]
  · exact OwnWork.refl s
  · exact OwnWork.withDrive s _

theorem OwnWork.armSend (s : State) (unit : Nat) : OwnWork s (armSend unit s) :=
  (OwnWork.withDrive s _).trans (OwnWork.raiseInterrupt _)

theorem OwnWork.withByteCount (s : State) (n : Nat) : OwnWork s (withByteCount n s) := OwnWork.withDrive _ _

theorem OwnWork.nextDataBlock (s : State) : OwnWork s (nextDataBlock s) := by
  unfold Machine.nextDataBlock
  split
  · exact ((OwnWork.withDrive s _).trans (OwnWork.withByteCount _ _)).trans (OwnWork.raiseInterrupt _)
  · exact OwnWork.refl s

theorem OwnWork.atapiStartSend (s : State) (reqlen alloclen unit : Nat) :
    OwnWork s (atapiStartSend reqlen alloclen unit s) := by
  unfold Machine.atapiStartSend
  dsimp only
  split
  · exact (OwnWork.withByteCount s _).trans (OwnWork.raiseError _ _)
  · split
    · exact (((OwnWork.withByteCount s _).trans (OwnWork.withByteCount _ _)).trans (OwnWork.withCd _ _)).trans
        (OwnWork.atapiComplete _)
    · exact (((OwnWork.withByteCount s _).trans (OwnWork.withByteCount _ _)).trans (OwnWork.withCd _ _)).trans
        (OwnWork.armSend _ _)

theorem OwnWork.sendFixed (s : State) (payload : List Byte) (alloclen : Nat) :
    OwnWork s (sendFixed payload alloclen s) :=
  (OwnWork.putBuffer s _ _).trans (OwnWork.atapiStartSend _ _ _ _)

theorem OwnWork.sendIfDefined (s : State) (payload : Option (List Byte)) (alloclen : Nat) :
    OwnWork s (sendIfDefined payload alloclen s) := by
  cases payload with
  | none => exact OwnWork.raiseError _ (.atapi 0x5 0x24)
  | some bs => exact OwnWork.sendFixed _ _ _

theorem OwnWork.recordCursor (s : State) (lba : Word) (len ss : Nat) : OwnWork s (recordCursor lba len ss s) :=
  ((OwnWork.withCd s _).trans (OwnWork.deviceSetMode _ ss)).trans (OwnWork.withCd _ _)

theorem OwnWork.armStreamDma (s : State) (lba : Word) (len ss : Nat) : OwnWork s (armStreamDma lba len ss s) :=
  ((((OwnWork.withCd s _).trans (OwnWork.withDrive _ _)).trans (OwnWork.deviceAcquire _)).trans
    (OwnWork.deviceSeek _ _)).trans (OwnWork.deviceRelease _)

/-! ## The walk -/

theorem OwnWork.walkSetup (s : State) : OwnWork s (walkSetup s) :=
  ((OwnWork.deviceAcquire s).trans (OwnWork.deviceSeek _ _)).trans (OwnWork.withWalk _ _)

theorem OwnWork.dmaRead (s : State) (addr : Word) (n : Nat) : OwnWork s (dmaRead addr n s).1 :=
  ⟨rfl, rfl, rfl, fun _ _ => ⟨rfl, rfl, rfl, rfl⟩, id, id⟩

theorem OwnWork.dmaWrite (s : State) (addr : Word) (bs : List Byte) : OwnWork s (dmaWrite addr bs s) :=
  ⟨rfl, rfl, rfl, fun _ _ => ⟨rfl, rfl, rfl, rfl⟩, id, fun h => Memory.writeSpan_wf _ _ _ h⟩

theorem OwnWork.fetchDescriptor (s : State) (w : Walker) : OwnWork s (fetchDescriptor w s) :=
  (OwnWork.dmaRead s w.p 8).trans (OwnWork.withWalk _ _)

theorem OwnWork.sendChunk (s : State) (w : Walker) (n : Nat) : OwnWork s (sendChunk w n s) :=
  (OwnWork.dmaWrite s _ _).trans (OwnWork.withWalk _ _)

theorem OwnWork.chunkToMemory (s : State) (w : Walker) (n : Nat) : OwnWork s (chunkToMemory w n s) := by
  unfold Machine.chunkToMemory
  split
  · have h := OwnWork.deviceReadBlock s w.unit
    split
    · next heq =>
      rw [heq] at h
      exact (h.trans (OwnWork.putBuffer _ _ _)).trans (OwnWork.sendChunk _ _ _)
    · next heq =>
      rw [heq] at h
      exact h.trans (OwnWork.withWalk _ _)
  · exact OwnWork.sendChunk _ _ _

theorem OwnWork.chunkFromMemory (s : State) (w : Walker) (n : Nat) : OwnWork s (chunkFromMemory w n s) := by
  unfold Machine.chunkFromMemory
  dsimp only
  have h1 := (OwnWork.dmaRead s w.addr n).trans (OwnWork.putBuffer _ w.pos (Machine.dmaRead w.addr n s).2)
  split
  · have h := OwnWork.deviceWriteBlock ((Machine.dmaRead w.addr n s).1.putBuffer w.pos (Machine.dmaRead w.addr n s).2)
      (bufferSlice ((Machine.dmaRead w.addr n s).1.putBuffer w.pos (Machine.dmaRead w.addr n s).2).sel.buffer 0 w.unit)
    split
    · next heq =>
      rw [heq] at h
      exact (h1.trans h).trans (OwnWork.withWalk _ _)
    · next heq =>
      rw [heq] at h
      exact (h1.trans h).trans (OwnWork.withWalk _ _)
  · exact h1.trans (OwnWork.withWalk _ _)

theorem OwnWork.moveChunk (s : State) (w : Walker) : OwnWork s (moveChunk w s) := by
  unfold Machine.moveChunk
  dsimp only
  split
  · exact OwnWork.chunkToMemory _ _ _
  · exact OwnWork.chunkFromMemory _ _ _

theorem OwnWork.finishCursor (s : State) (w : Walker) : OwnWork s (finishCursor w s) := by
  unfold Machine.finishCursor
  split
  · exact (OwnWork.withCd s _).trans (OwnWork.withDrive _ _)
  · exact OwnWork.withDrive _ _

theorem OwnWork.dmaDone (s : State) (w : Walker) : OwnWork s (dmaDone w s) := by
  have h1 := OwnWork.deviceRelease s
  unfold Machine.dmaDone
  dsimp only
  split
  · exact ((((h1.trans (OwnWork.withBm _ _)).trans (OwnWork.finishCursor _ w)).trans (OwnWork.withDrive _ _)).trans
      (OwnWork.withWalk _ _)).trans (OwnWork.raiseInterrupt _)
  · exact (((h1.trans (OwnWork.finishCursor _ w)).trans (OwnWork.withDrive _ _)).trans
      (OwnWork.withWalk _ _)).trans (OwnWork.raiseInterrupt _)

/-- A step of a walk is an error exit, the successful exit, a descriptor fetch or a chunk. -/
theorem walkStep_cases (w : Walker) (s : State) :
    ((w.failed = true ∨ (w.units ≠ 0 ∧ w.cnt = 0 ∧ w.last = true)) ∧ walkStep w s = raiseError (.dma w) s) ∨
      (w.failed = false ∧ w.units = 0 ∧ walkStep w s = dmaDone w s) ∨
      (awaitsDescriptor w = true ∧ walkStep w s = fetchDescriptor w s) ∨
      (w.failed = false ∧ w.units ≠ 0 ∧ w.cnt ≠ 0 ∧ walkStep w s = moveChunk w s) := by
  unfold walkStep awaitsDescriptor
  rcases Bool.eq_false_or_eq_true w.failed with hf | hf <;> simp only [hf]
  · simp
  · by_cases hu : w.units = 0
    · simp [hu]
    · by_cases hc : w.cnt = 0
      · rcases Bool.eq_false_or_eq_true w.last with hl | hl <;> simp [hu, hc, hl]
      · simp [hu, hc]

theorem OwnWork.walkStep (s : State) (w : Walker) : OwnWork s (walkStep w s) := by
  rcases walkStep_cases w s with ⟨_, h⟩ | ⟨_, _, h⟩ | ⟨_, h⟩ | ⟨_, _, _, h⟩ <;> rw [h]
  · exact OwnWork.raiseError _ _
  · exact OwnWork.dmaDone _ _
  · exact OwnWork.fetchDescriptor _ _
  · exact OwnWork.moveChunk _ _

theorem OwnWork.runWalk (n : Nat) (s : State) : OwnWork s (runWalk n s) := by
  induction n generalizing s with
  | zero => exact OwnWork.refl s
  | succ n ih =>
    unfold Machine.runWalk
    split
    · exact (OwnWork.walkStep _ _).trans (ih _)
    · exact OwnWork.refl s
    · exact OwnWork.refl s

theorem OwnWork.wholeWalk (s : State) : OwnWork s (wholeWalk s) :=
  (OwnWork.walkSetup s).trans (OwnWork.runWalk _ _)

/-! ## The kick -/

/-- With the kick condition false the kick does nothing. -/
theorem kick_of_not_condition {s : State} (site : KickSite) (h : kickCondition s = false) : kick site s = .next s := by
  simp [kick, h]

/-- A kick that answers a next state did nothing, ran a whole walk, or handed one over. -/
theorem kick_eq_next {site : KickSite} {s t : State} (h : kick site s = .next t) :
    t = s ∨ (s.cfg.defer = false ∧ t = wholeWalk s) ∨
      (s.cfg.defer = true ∧ t = (s.withDrive { s.sel with status := statusBusy }).withWalk .pending) ∨
      (s.cfg.defer = true ∧ slotBusy s = false ∧ ∃ m, t = pushSlot m s) := by
  unfold kick ifDirectionAgrees at h
  rcases Bool.eq_false_or_eq_true (kickCondition s) with hk | hk <;> simp only [hk] at h
  · rcases Bool.eq_false_or_eq_true s.cfg.defer with hd | hd <;> simp only [hd] at h
    · cases site <;> simp only [Bool.not_true, Bool.false_eq_true, if_false] at h
      · split at h
        · cases h
          exact .inr (.inr (.inl ⟨hd, rfl⟩))
        · cases h
      · split at h
        · cases h
          exact .inl rfl
        · split at h
          · cases h
            exact .inr (.inr (.inr ⟨hd, by simpa using ‹¬slotBusy s = true›, _, rfl⟩))
          · cases h
      · split at h
        · cases h
          exact .inl rfl
        · split at h
          · cases h
            exact .inr (.inr (.inr ⟨hd, by simpa using ‹¬slotBusy s = true›, _, rfl⟩))
          · cases h
    · simp only [Bool.not_true, Bool.not_false, Bool.false_eq_true, if_false, if_true] at h
      split at h
      · cases h
        exact .inr (.inl ⟨hd, rfl⟩)
      · cases h
  · simp only [Bool.not_false, if_true] at h
    cases h
    exact .inl rfl

theorem OwnWork.kick {site : KickSite} {s t : State} (h : kick site s = .next t) : OwnWork s t := by
  rcases kick_eq_next h with rfl | ⟨_, rfl⟩ | ⟨_, rfl⟩ | ⟨_, _, m, rfl⟩
  · exact OwnWork.refl _
  · exact OwnWork.wholeWalk _
  · exact (OwnWork.withDrive s _).trans (OwnWork.withWalk _ _)
  · exact OwnWork.pushSlot _ _

/-! ## Turns of the worker -/

@[simp] theorem workerTurns_zero (s : State) : workerTurns 0 s = .next s := rfl

@[simp] theorem workerTurns_succ (n : Nat) (s : State) :
    workerTurns (n + 1) s = andThen (workerStep s) (workerTurns n) := rfl

/-- The turns of two counts are those of the sum. -/
theorem workerTurns_add (m n : Nat) (s : State) :
    workerTurns (m + n) s = andThen (workerTurns m s) (workerTurns n) := by
  induction m generalizing s with
  | zero => simp
  | succ m ih =>
    rw [Nat.succ_add, workerTurns_succ, workerTurns_succ]
    cases workerStep s with
    | next t => simpa using ih t
    | fault f => rfl
    | refused r => rfl

end Sys2Proof.Machine
end

