-- ==== Sys2Proof/Laws/PerInstr.lean ====
section
/-!
SUPPORT. One statement for each constructor of Instr: on the primary channel, for which the table's rows are
written, the bits of a well-formed instruction match its row of spec/opcode_table.json. The rows below are copied
from that table, mask first.
-/

namespace Sys2Proof

/-- The bits of an instruction as the opcode table numbers them: a transaction word is the first two bytes, a
packet is numbered by its opcode byte, a command byte and a descriptor by all their bytes. -/
def tableBits (f : Format) (bytes : List Byte) : BitVec 64 :=
  match f, bytes with
  | .io, t0 :: t1 :: _ => (t1 ++ t0).setWidth 64
  | .ata, v :: _ => v.setWidth 64
  | .pkt, p0 :: _ => p0.setWidth 64
  | .prd, [b0, b1, b2, b3, b4, b5, b6, b7] => b7 ++ b6 ++ b5 ++ b4 ++ b3 ++ b2 ++ b1 ++ b0
  | _, _ => 0

/-- The mask and the match of an instruction's row. An offset past 15 of the bus-master window is not this block's
either (43_busmaster_dma.md R240), but only the row BM_MULTIBYTE has its word (log 15). -/
def tableRow : Instr → BitVec 64 × BitVec 64
  | .ior16Data => (0xFFFF, 0x0000)
  | .iow16Data _ => (0xFFFF, 0x8000)
  | .ior8Error => (0xFFFF, 0x0001)
  | .iow8Feature _ => (0xFFFF, 0x8001)
  | .ior8SectorCount => (0xFFFF, 0x0002)
  | .iow8SectorCount _ => (0xFFFF, 0x8002)
  | .ior8SectorNumber => (0xFFFF, 0x0003)
  | .iow8SectorNumber _ => (0xFFFF, 0x8003)
  | .ior8CylLsb => (0xFFFF, 0x0004)
  | .iow8CylLsb _ => (0xFFFF, 0x8004)
  | .ior8CylMsb => (0xFFFF, 0x0005)
  | .iow8CylMsb _ => (0xFFFF, 0x8005)
  | .ior8DriveHead => (0xFFFF, 0x0006)
  | .iow8DriveHead _ => (0xFFFF, 0x8006)
  | .ior8Status => (0xFFFF, 0x0007)
  | .iow8Command _ => (0xFFFF, 0x8007)
  | .ior8Status2 => (0xFFFF, 0x1006)
  | .iow8Output _ => (0xFFFF, 0x9006)
  | .ctlInvalid _ _ => (0x7000, 0x1000)
  | .ior8BmCommand => (0xFFFF, 0x2000)
  | .iow8BmCommand _ => (0xFFFF, 0xA000)
  | .ior8BmReserved => (0xFFFF, 0x2001)
  | .iow8BmReserved _ => (0xFFFF, 0xA001)
  | .ior8BmStatus => (0xFFFF, 0x2002)
  | .iow8BmStatus _ => (0xFFFF, 0xA002)
  | .ior8BmUdma => (0xFFFF, 0x2003)
  | .iow8BmUdma _ => (0xFFFF, 0xA003)
  | .ior8BmPrdptr0 => (0xFFFF, 0x2004)
  | .iow8BmPrdptr0 _ => (0xFFFF, 0xA004)
  | .ior8BmPrdptr1 => (0xFFFF, 0x2005)
  | .iow8BmPrdptr1 _ => (0xFFFF, 0xA005)
  | .ior8BmPrdptr2 => (0xFFFF, 0x2006)
  | .iow8BmPrdptr2 _ => (0xFFFF, 0xA006)
  | .ior8BmPrdptr3 => (0xFFFF, 0x2007)
  | .iow8BmPrdptr3 _ => (0xFFFF, 0xA007)
  | .bmOtherChannel offset _ => if offset.toNat < 16 then (0x70F8, 0x2008) else (0x7000, 0x2000)
  | .bmMultibyte _ _ => (0x7000, 0x2000)
  | .cfgAlias _ _ => (0x7000, 0x3000)
  | .widthError _ _ _ => (0x6000, 0x0000)
  | .droppedWrite _ _ _ => (0xE000, 0x8000)
  | .readSector => (0xFF, 0x20)
  | .writeSector => (0xFF, 0x30)
  | .packet => (0xFF, 0xA0)
  | .identifyPacket => (0xFF, 0xA1)
  | .readDma => (0xFF, 0xC8)
  | .writeDma => (0xFF, 0xCA)
  | .standbyImmediate => (0xFF, 0xE0)
  | .sleep => (0xFF, 0xE6)
  | .flushCache => (0xFF, 0xE7)
  | .identify => (0xFF, 0xEC)
  | .setFeatures => (0xFF, 0xEF)
  | .ataUnknown _ => (0x0, 0x0)
  | .requestSense _ => (0xFF, 0x03)
  | .inquiry _ => (0xFF, 0x12)
  | .modeSense6 _ _ _ => (0xFF, 0x1A)
  | .modeSense10 _ _ _ => (0xFF, 0x5A)
  | .readToc _ _ _ _ => (0xFF, 0x43)
  | .readDvdStructure _ _ _ _ => (0xFF, 0xAD)
  | .read10 _ _ => (0xFF, 0x28)
  | .read12 _ _ => (0xFF, 0xA8)
  | .readCd _ _ _ _ => (0xFF, 0xBE)
  | .pktUnknown _ => (0x0, 0x0)
  | .prdEntry _ _ _ _ => (0x0, 0x0)

namespace Laws.RowMatch

/-- A well-formed instruction's bits match its row of the opcode table. -/
def Statement (i : Instr) : Prop :=
  i.wellFormed .primary = true →
    tableBits (encode .primary i).1 (encode .primary i).2 &&& (tableRow i).1 = (tableRow i).2

/-- The window bits of a transaction word. -/
theorem window_bits (wr : Bool) (offset : Byte) :
    (ioHighByte .ctl wr ++ offset).setWidth 64 &&& 0x7000#64 = 0x1000 ∧
      (ioHighByte .bm wr ++ offset).setWidth 64 &&& 0x7000#64 = 0x2000 ∧
      (ioHighByte .cfg wr ++ offset).setWidth 64 &&& 0x7000#64 = 0x3000 ∧
      (ioHighByte .cmd wr ++ offset).setWidth 64 &&& 0x6000#64 = 0x0000 ∧
      (ioHighByte .ctl wr ++ offset).setWidth 64 &&& 0x6000#64 = 0x0000 ∧
      (ioHighByte .cmd true ++ offset).setWidth 64 &&& 0xE000#64 = 0x8000 ∧
      (ioHighByte .ctl true ++ offset).setWidth 64 &&& 0xE000#64 = 0x8000 := by
  revert wr offset
  decide +kernel

/-- The offsets of the other channel's half of the bus-master window. -/
theorem other_channel_bits (wr : Bool) (offset : Byte) (h : ¬offset.toNat < 8) (h' : offset.toNat < 16) :
    (ioHighByte .bm wr ++ offset).setWidth 64 &&& 0x70F8#64 = 0x2008 := by
  revert wr offset
  decide +kernel

theorem ior16Data : Statement .ior16Data := by
  intro _
  rfl

theorem iow16Data (v : Half) : Statement (.iow16Data v) := by
  intro _
  show ((ioHighByte .cmd true ++ 0#8).setWidth 64 &&& 0xFFFF#64) = 0x8000#64
  rfl

theorem ior8Error : Statement .ior8Error := by
  intro _
  rfl

theorem iow8Feature (v : Byte) : Statement (.iow8Feature v) := by
  intro _
  show ((ioHighByte .cmd true ++ 1#8).setWidth 64 &&& 0xFFFF#64) = 0x8001#64
  rfl

theorem ior8SectorCount : Statement .ior8SectorCount := by
  intro _
  rfl

theorem iow8SectorCount (v : Byte) : Statement (.iow8SectorCount v) := by
  intro _
  show ((ioHighByte .cmd true ++ 2#8).setWidth 64 &&& 0xFFFF#64) = 0x8002#64
  rfl

theorem ior8SectorNumber : Statement .ior8SectorNumber := by
  intro _
  rfl

theorem iow8SectorNumber (v : Byte) : Statement (.iow8SectorNumber v) := by
  intro _
  show ((ioHighByte .cmd true ++ 3#8).setWidth 64 &&& 0xFFFF#64) = 0x8003#64
  rfl

theorem ior8CylLsb : Statement .ior8CylLsb := by
  intro _
  rfl

theorem iow8CylLsb (v : Byte) : Statement (.iow8CylLsb v) := by
  intro _
  show ((ioHighByte .cmd true ++ 4#8).setWidth 64 &&& 0xFFFF#64) = 0x8004#64
  rfl

theorem ior8CylMsb : Statement .ior8CylMsb := by
  intro _
  rfl

theorem iow8CylMsb (v : Byte) : Statement (.iow8CylMsb v) := by
  intro _
  show ((ioHighByte .cmd true ++ 5#8).setWidth 64 &&& 0xFFFF#64) = 0x8005#64
  rfl

theorem ior8DriveHead : Statement .ior8DriveHead := by
  intro _
  rfl

theorem iow8DriveHead (v : Byte) : Statement (.iow8DriveHead v) := by
  intro _
  show ((ioHighByte .cmd true ++ 6#8).setWidth 64 &&& 0xFFFF#64) = 0x8006#64
  rfl

theorem ior8Status : Statement .ior8Status := by
  intro _
  rfl

theorem iow8Command (v : Byte) : Statement (.iow8Command v) := by
  intro _
  show ((ioHighByte .cmd true ++ 7#8).setWidth 64 &&& 0xFFFF#64) = 0x8007#64
  rfl

theorem ior8Status2 : Statement .ior8Status2 := by
  intro _
  rfl

theorem iow8Output (v : Byte) : Statement (.iow8Output v) := by
  intro _
  show ((ioHighByte .ctl true ++ 6#8).setWidth 64 &&& 0xFFFF#64) = 0x9006#64
  rfl

theorem ctlInvalid (offset : Byte) (a : Access) : Statement (.ctlInvalid offset a) := by
  intro _
  exact (window_bits a.isWrite offset).1

theorem ior8BmCommand : Statement .ior8BmCommand := by
  intro _
  rfl

theorem iow8BmCommand (v : Byte) : Statement (.iow8BmCommand v) := by
  intro _
  show ((ioHighByte .bm true ++ 0#8).setWidth 64 &&& 0xFFFF#64) = 0xA000#64
  rfl

theorem ior8BmReserved : Statement .ior8BmReserved := by
  intro _
  rfl

theorem iow8BmReserved (v : Byte) : Statement (.iow8BmReserved v) := by
  intro _
  show ((ioHighByte .bm true ++ 1#8).setWidth 64 &&& 0xFFFF#64) = 0xA001#64
  rfl

theorem ior8BmStatus : Statement .ior8BmStatus := by
  intro _
  rfl

theorem iow8BmStatus (v : Byte) : Statement (.iow8BmStatus v) := by
  intro _
  show ((ioHighByte .bm true ++ 2#8).setWidth 64 &&& 0xFFFF#64) = 0xA002#64
  rfl

theorem ior8BmUdma : Statement .ior8BmUdma := by
  intro _
  rfl

theorem iow8BmUdma (v : Byte) : Statement (.iow8BmUdma v) := by
  intro _
  show ((ioHighByte .bm true ++ 3#8).setWidth 64 &&& 0xFFFF#64) = 0xA003#64
  rfl

theorem ior8BmPrdptr0 : Statement .ior8BmPrdptr0 := by
  intro _
  rfl

theorem iow8BmPrdptr0 (v : Byte) : Statement (.iow8BmPrdptr0 v) := by
  intro _
  show ((ioHighByte .bm true ++ 4#8).setWidth 64 &&& 0xFFFF#64) = 0xA004#64
  rfl

theorem ior8BmPrdptr1 : Statement .ior8BmPrdptr1 := by
  intro _
  rfl

theorem iow8BmPrdptr1 (v : Byte) : Statement (.iow8BmPrdptr1 v) := by
  intro _
  show ((ioHighByte .bm true ++ 5#8).setWidth 64 &&& 0xFFFF#64) = 0xA005#64
  rfl

theorem ior8BmPrdptr2 : Statement .ior8BmPrdptr2 := by
  intro _
  rfl

theorem iow8BmPrdptr2 (v : Byte) : Statement (.iow8BmPrdptr2 v) := by
  intro _
  show ((ioHighByte .bm true ++ 6#8).setWidth 64 &&& 0xFFFF#64) = 0xA006#64
  rfl

theorem ior8BmPrdptr3 : Statement .ior8BmPrdptr3 := by
  intro _
  rfl

theorem iow8BmPrdptr3 (v : Byte) : Statement (.iow8BmPrdptr3 v) := by
  intro _
  show ((ioHighByte .bm true ++ 7#8).setWidth 64 &&& 0xFFFF#64) = 0xA007#64
  rfl

theorem bmOtherChannel (offset : Byte) (a : Access) : Statement (.bmOtherChannel offset a) := by
  intro h
  simp only [Instr.wellFormed, Channel.owns, Channel.base, Bool.and_eq_true, Bool.not_eq_true', decide_eq_false_iff_not,
    Nat.zero_le, true_and, Nat.zero_add] at h
  simp only [tableRow]
  split
  · exact other_channel_bits a.isWrite offset h.1 ‹_›
  · exact (window_bits a.isWrite offset).2.1

theorem bmMultibyte (offset : Byte) (a : Access) : Statement (.bmMultibyte offset a) := by
  intro _
  exact (window_bits a.isWrite offset).2.1

theorem cfgAlias (offset : Byte) (a : Access) : Statement (.cfgAlias offset a) := by
  intro _
  exact (window_bits a.isWrite offset).2.2.1

theorem widthError (w : Window) (offset : Byte) (a : Access) : Statement (.widthError w offset a) := by
  intro h
  cases w with
  | cmd => exact (window_bits a.isWrite offset).2.2.2.1
  | ctl => exact (window_bits a.isWrite offset).2.2.2.2.1
  | bm => cases h
  | cfg => cases h

theorem droppedWrite (w : Window) (offset : Byte) (a : Access) : Statement (.droppedWrite w offset a) := by
  intro h
  cases w with
  | cmd =>
    have hw : a.isWrite = true := by simp only [Instr.wellFormed, Bool.and_eq_true] at h; exact h.2
    have := (window_bits true offset).2.2.2.2.2.1
    rw [← hw] at this
    exact this
  | ctl =>
    have hw : a.isWrite = true := by simpa only [Instr.wellFormed] using h
    have := (window_bits true offset).2.2.2.2.2.2
    rw [← hw] at this
    exact this
  | bm => cases h
  | cfg => cases h

theorem readSector : Statement .readSector := by
  intro _
  rfl

theorem writeSector : Statement .writeSector := by
  intro _
  rfl

theorem packet : Statement .packet := by
  intro _
  rfl

theorem identifyPacket : Statement .identifyPacket := by
  intro _
  rfl

theorem readDma : Statement .readDma := by
  intro _
  rfl

theorem writeDma : Statement .writeDma := by
  intro _
  rfl

theorem standbyImmediate : Statement .standbyImmediate := by
  intro _
  rfl

theorem sleep : Statement .sleep := by
  intro _
  rfl

theorem flushCache : Statement .flushCache := by
  intro _
  rfl

theorem identify : Statement .identify := by
  intro _
  rfl

theorem setFeatures : Statement .setFeatures := by
  intro _
  rfl

theorem ataUnknown (opcode : Byte) : Statement (.ataUnknown opcode) := by
  intro _
  exact BitVec.and_zero

theorem requestSense (alloc : Byte) : Statement (.requestSense alloc) := by
  intro _
  show ((0x03#8).setWidth 64 &&& 0xFF#64) = 0x03#64
  rfl

theorem inquiry (alloc : Byte) : Statement (.inquiry alloc) := by
  intro _
  show ((0x12#8).setWidth 64 &&& 0xFF#64) = 0x12#64
  rfl

theorem modeSense6 (pc : BitVec 2) (page : BitVec 6) (alloc : Byte) : Statement (.modeSense6 pc page alloc) := by
  intro _
  show ((0x1A#8).setWidth 64 &&& 0xFF#64) = 0x1A#64
  rfl

theorem modeSense10 (pc : BitVec 2) (page : BitVec 6) (alloc : Half) : Statement (.modeSense10 pc page alloc) := by
  intro _
  show ((0x5A#8).setWidth 64 &&& 0xFF#64) = 0x5A#64
  rfl

theorem readToc (msf : Bool) (format : BitVec 4) (track : Byte) (alloc : Half) : Statement (.readToc msf format track alloc) := by
  intro _
  show ((0x43#8).setWidth 64 &&& 0xFF#64) = 0x43#64
  rfl

theorem readDvdStructure (address : Word) (layer : Byte) (format : Byte) (alloc : Half) : Statement (.readDvdStructure address layer format alloc) := by
  intro _
  show ((0xAD#8).setWidth 64 &&& 0xFF#64) = 0xAD#64
  rfl

theorem read10 (lba : Word) (len : Half) : Statement (.read10 lba len) := by
  intro _
  show ((0x28#8).setWidth 64 &&& 0xFF#64) = 0x28#64
  rfl

theorem read12 (lba : Word) (len : Word) : Statement (.read12 lba len) := by
  intro _
  show ((0xA8#8).setWidth 64 &&& 0xFF#64) = 0xA8#64
  rfl

theorem readCd (lba : Word) (len : BitVec 24) (sub : Byte) (subch : BitVec 3) : Statement (.readCd lba len sub subch) := by
  intro _
  show ((0xBE#8).setWidth 64 &&& 0xFF#64) = 0xBE#64
  rfl

theorem pktUnknown (opcode : Byte) : Statement (.pktUnknown opcode) := by
  intro _
  exact BitVec.and_zero

theorem prdEntry (address : Word) (count : Half) (ignored : BitVec 15) (eot : Bool) : Statement (.prdEntry address count ignored eot) := by
  intro _
  exact BitVec.and_zero

end Laws.RowMatch

end Sys2Proof
end

