-- ==== Sys2Proof/Tests/Slice0.lean ====
section
/-!
SUPPORT. Tests: the ill-formed terms that WellFormed refuses; the words of 30_encoding.md written out bit by bit and
decoded, one for each constructor; one step for the families, with the expected values of 95_test_vectors.md (the
vector is named at each); a state that meets the hypotheses of each statement.
-/

namespace Sys2Proof.Tests

open Sys2Proof Sys2Proof.Machine

/-! ## Terms that are no instructions -/

theorem test_ctl_offset_6_is_not_invalid : Instr.wellFormed .primary (.ctlInvalid 6 .r8) = false := by decide
theorem test_own_offset_is_not_other_channel :
    Instr.wellFormed .primary (.bmOtherChannel 7 .r8) = false ∧
      Instr.wellFormed .secondary (.bmOtherChannel 8 .r8) = false := by decide
theorem test_wide_is_not_other_channel : Instr.wellFormed .primary (.bmOtherChannel 8 .r16) = false := by decide
theorem test_byte_is_not_multibyte : Instr.wellFormed .primary (.bmMultibyte 0 (.w8 1)) = false := by decide
theorem test_legal_size_is_no_width_error :
    Instr.wellFormed .primary (.widthError .cmd 0 .r16) = false ∧
      Instr.wellFormed .primary (.widthError .cmd 7 .r8) = false ∧
      Instr.wellFormed .primary (.widthError .ctl 6 .r8) = false := by decide
theorem test_width_error_needs_a_register :
    Instr.wellFormed .primary (.widthError .cmd 8 .r16) = false ∧
      Instr.wellFormed .primary (.widthError .ctl 5 .r16) = false ∧
      Instr.wellFormed .primary (.widthError .bm 0 .r16) = false ∧
      Instr.wellFormed .primary (.widthError .cfg 0 .r16) = false := by decide
theorem test_dropped_write_is_a_register_write :
    Instr.wellFormed .primary (.droppedWrite .cmd 0 .r16) = false ∧
      Instr.wellFormed .primary (.droppedWrite .cmd 8 (.w8 0)) = false ∧
      Instr.wellFormed .primary (.droppedWrite .ctl 6 .r8) = false ∧
      Instr.wellFormed .primary (.droppedWrite .bm 0 (.w8 0)) = false ∧
      Instr.wellFormed .primary (.droppedWrite .cfg 0 (.w8 0)) = false := by decide
theorem test_known_opcodes_are_not_unknown :
    Instr.wellFormed .primary (.ataUnknown 0x20) = false ∧
      Instr.wellFormed .primary (.pktUnknown 0x03) = false := by decide

/-! ## Words written out -/

/-- The idle block on either channel, and the block with a deferred operation outstanding. -/
def onPrimary : DecodeContext := { channel := .primary, busy := false }
def onSecondary : DecodeContext := { channel := .secondary, busy := false }
def whileBusy : DecodeContext := { channel := .primary, busy := true }

/-- R91, R95: `T = 0x0000` and `0x8000`, size 2. -/
theorem test_decode_data :
    decode onPrimary .io [0x00, 0x00, 2] = .ok .ior16Data ∧
      decode onPrimary .io [0x00, 0x80, 2, 0x34, 0x12] = .ok (.iow16Data 0x1234) := ⟨rfl, rfl⟩
/-- R91, the read sides of offsets 1 to 7. -/
theorem test_decode_command_window_reads :
    decode onPrimary .io [0x01, 0x00, 1] = .ok .ior8Error ∧
      decode onPrimary .io [0x02, 0x00, 1] = .ok .ior8SectorCount ∧
      decode onPrimary .io [0x03, 0x00, 1] = .ok .ior8SectorNumber ∧
      decode onPrimary .io [0x04, 0x00, 1] = .ok .ior8CylLsb ∧
      decode onPrimary .io [0x05, 0x00, 1] = .ok .ior8CylMsb ∧
      decode onPrimary .io [0x06, 0x00, 1] = .ok .ior8DriveHead ∧
      decode onPrimary .io [0x07, 0x00, 1] = .ok .ior8Status := ⟨rfl, rfl, rfl, rfl, rfl, rfl, rfl⟩
/-- R91, the write sides of offsets 1 to 7. -/
theorem test_decode_command_window_writes :
    decode onPrimary .io [0x01, 0x80, 1, 0xAA] = .ok (.iow8Feature 0xAA) ∧
      decode onPrimary .io [0x02, 0x80, 1, 0x7F] = .ok (.iow8SectorCount 0x7F) ∧
      decode onPrimary .io [0x03, 0x80, 1, 0x05] = .ok (.iow8SectorNumber 0x05) ∧
      decode onPrimary .io [0x04, 0x80, 1, 0x34] = .ok (.iow8CylLsb 0x34) ∧
      decode onPrimary .io [0x05, 0x80, 1, 0x12] = .ok (.iow8CylMsb 0x12) ∧
      decode onPrimary .io [0x06, 0x80, 1, 0x10] = .ok (.iow8DriveHead 0x10) ∧
      decode onPrimary .io [0x07, 0x80, 1, 0xEC] = .ok (.iow8Command 0xEC) := ⟨rfl, rfl, rfl, rfl, rfl, rfl, rfl⟩
/-- R92; an offset other than 6 (40_register_access.md R157). -/
theorem test_decode_control_window :
    decode onPrimary .io [0x06, 0x10, 1] = .ok .ior8Status2 ∧
      decode onPrimary .io [0x06, 0x90, 1, 0x04] = .ok (.iow8Output 0x04) ∧
      decode onPrimary .io [0x02, 0x10, 1] = .ok (.ctlInvalid 2 .r8) ∧
      decode onPrimary .io [0x00, 0x90, 1, 0xFF] = .ok (.ctlInvalid 0 (.w8 0xFF)) := ⟨rfl, rfl, rfl, rfl⟩
/-- R93 with `b = 0`, and `b = 8` on the other channel. -/
theorem test_decode_bus_master_reads :
    decode onPrimary .io [0x00, 0x20, 1] = .ok .ior8BmCommand ∧
      decode onPrimary .io [0x01, 0x20, 1] = .ok .ior8BmReserved ∧
      decode onPrimary .io [0x02, 0x20, 1] = .ok .ior8BmStatus ∧
      decode onPrimary .io [0x03, 0x20, 1] = .ok .ior8BmUdma ∧
      decode onPrimary .io [0x04, 0x20, 1] = .ok .ior8BmPrdptr0 ∧
      decode onPrimary .io [0x05, 0x20, 1] = .ok .ior8BmPrdptr1 ∧
      decode onPrimary .io [0x06, 0x20, 1] = .ok .ior8BmPrdptr2 ∧
      decode onSecondary .io [0x0F, 0x20, 1] = .ok .ior8BmPrdptr3 := ⟨rfl, rfl, rfl, rfl, rfl, rfl, rfl, rfl⟩
theorem test_decode_bus_master_writes :
    decode onPrimary .io [0x00, 0xA0, 1, 0x09] = .ok (.iow8BmCommand 0x09) ∧
      decode onPrimary .io [0x01, 0xA0, 1, 0xFF] = .ok (.iow8BmReserved 0xFF) ∧
      decode onPrimary .io [0x02, 0xA0, 1, 0x06] = .ok (.iow8BmStatus 0x06) ∧
      decode onPrimary .io [0x03, 0xA0, 1, 0xAB] = .ok (.iow8BmUdma 0xAB) ∧
      decode onPrimary .io [0x04, 0xA0, 1, 0x00] = .ok (.iow8BmPrdptr0 0x00) ∧
      decode onPrimary .io [0x05, 0xA0, 1, 0x10] = .ok (.iow8BmPrdptr1 0x10) ∧
      decode onPrimary .io [0x06, 0xA0, 1, 0x00] = .ok (.iow8BmPrdptr2 0x00) ∧
      decode onSecondary .io [0x0F, 0xA0, 1, 0x20] = .ok (.iow8BmPrdptr3 0x20) := ⟨rfl, rfl, rfl, rfl, rfl, rfl, rfl, rfl⟩
/-- R93, R94: the other channel's half, the wide forms, the configuration alias. -/
theorem test_decode_other_windows :
    decode onPrimary .io [0x08, 0x20, 1] = .ok (.bmOtherChannel 8 .r8) ∧
      decode onSecondary .io [0x07, 0xA0, 1, 0x01] = .ok (.bmOtherChannel 7 (.w8 0x01)) ∧
      decode onPrimary .io [0x04, 0xA0, 4, 0x00, 0x00, 0x10, 0x00] = .ok (.bmMultibyte 4 (.w32 0x00100000)) ∧
      decode onPrimary .io [0x54, 0xB0, 4, 0x00, 0x00, 0x10, 0x00] = .ok (.cfgAlias 0x54 (.w32 0x00100000)) ∧
      decode onPrimary .io [0x52, 0x30, 1] = .ok (.cfgAlias 0x52 .r8) := ⟨rfl, rfl, rfl, rfl, rfl⟩
/-- The order of the tests of 40_register_access.md R130: the dropped write comes before the width error. -/
theorem test_decode_access_errors :
    decode onPrimary .io [0x07, 0x00, 2] = .ok (.widthError .cmd 7 .r16) ∧
      decode onPrimary .io [0x00, 0x80, 4, 0x44, 0x33, 0x22, 0x11] =
        .ok (.widthError .cmd 0 (.w32 0x11223344)) ∧
      decode whileBusy .io [0x00, 0x80, 4, 0x44, 0x33, 0x22, 0x11] =
        .ok (.droppedWrite .cmd 0 (.w32 0x11223344)) ∧
      decode whileBusy .io [0x07, 0x80, 1, 0xEC] = .ok (.droppedWrite .cmd 7 (.w8 0xEC)) ∧
      decode whileBusy .io [0x07, 0x00, 1] = .ok .ior8Status := ⟨rfl, rfl, rfl, rfl, rfl⟩
/-- What is no transaction is refused by name (log 9). -/
theorem test_decode_refuses :
    decode onPrimary .io [0x08, 0x00, 1] = .error .noOffset ∧
      decode onPrimary .io [0x00, 0x40, 1] = .error .noWindow ∧
      decode onPrimary .io [0x00, 0x01, 1] = .error .reservedBits ∧
      decode onPrimary .io [0x00, 0x00, 3] = .error .badSize ∧
      decode onPrimary .io [0x00, 0x80, 1] = .error .badLength := ⟨rfl, rfl, rfl, rfl, rfl⟩
/-- R102: the eleven command bytes, and one that is none of them. -/
theorem test_decode_commands :
    decode onPrimary .ata [0x20] = .ok .readSector ∧ decode onPrimary .ata [0x30] = .ok .writeSector ∧
      decode onPrimary .ata [0xA0] = .ok .packet ∧ decode onPrimary .ata [0xA1] = .ok .identifyPacket ∧
      decode onPrimary .ata [0xC8] = .ok .readDma ∧ decode onPrimary .ata [0xCA] = .ok .writeDma ∧
      decode onPrimary .ata [0xE0] = .ok .standbyImmediate ∧ decode onPrimary .ata [0xE6] = .ok .sleep ∧
      decode onPrimary .ata [0xE7] = .ok .flushCache ∧ decode onPrimary .ata [0xEC] = .ok .identify ∧
      decode onPrimary .ata [0xEF] = .ok .setFeatures ∧ decode onPrimary .ata [0x91] = .ok (.ataUnknown 0x91) :=
  ⟨rfl, rfl, rfl, rfl, rfl, rfl, rfl, rfl, rfl, rfl, rfl, rfl⟩
/-- R116 to R119: the packets without a block address (vectors V48, V42, V56, V57). -/
theorem test_decode_fixed_packets :
    decode onPrimary .pkt [0x03, 0, 0, 0, 0x12, 0, 0, 0, 0, 0, 0, 0] = .ok (.requestSense 18) ∧
      decode onPrimary .pkt [0x12, 0, 0, 0, 0x24, 0, 0, 0, 0, 0, 0, 0] = .ok (.inquiry 36) ∧
      decode onPrimary .pkt [0x1A, 0, 0x6A, 0, 0x18, 0, 0, 0, 0, 0, 0, 0] = .ok (.modeSense6 1 0x2A 24) ∧
      decode onPrimary .pkt [0x5A, 0, 0xEA, 0, 0, 0, 0, 0x01, 0x1C, 0, 0, 0] = .ok (.modeSense10 3 0x2A 284) ∧
      decode onPrimary .pkt [0x43, 2, 0x12, 0, 0, 0, 0x07, 0, 0x14, 0, 0, 0] = .ok (.readToc true 2 7 20) ∧
      decode onPrimary .pkt [0xAD, 0, 1, 2, 3, 4, 5, 6, 7, 8, 0, 0] =
        .ok (.readDvdStructure 0x01020304 5 6 0x0708) ∧
      decode onPrimary .pkt [0x1B, 1, 2, 3, 4, 5, 6, 7, 8, 9, 10, 11] = .ok (.pktUnknown 0x1B) :=
  ⟨rfl, rfl, rfl, rfl, rfl, rfl, rfl⟩
/-- R117 to R119: the packets with a block address, each field most significant byte first. -/
theorem test_decode_block_packets :
    decode onPrimary .pkt [0x28, 0, 1, 2, 3, 4, 0, 5, 6, 0, 0, 0] = .ok (.read10 0x01020304 0x0506) ∧
      decode onPrimary .pkt [0xA8, 0, 1, 2, 3, 4, 5, 6, 7, 8, 0, 0] = .ok (.read12 0x01020304 0x05060708) ∧
      decode onPrimary .pkt [0xBE, 0, 1, 2, 3, 4, 5, 6, 7, 0x10, 0x09, 0] =
        .ok (.readCd 0x01020304 0x050607 0x10 1) := ⟨rfl, rfl, rfl⟩
/-- R113: little-endian, COUNT in bits 47:32, EOT in bit 63, the rest ignored. -/
theorem test_decode_descriptor :
    decode onPrimary .prd [0x78, 0x56, 0x34, 0x12, 0x00, 0x01, 0x02, 0x80] =
      .ok (.prdEntry 0x12345678 0x0100 2 true) := rfl
/-- Words numbered as the opcode table numbers them. -/
theorem test_decode_table_words :
    decodeTableWord 16 0x8007 = some (.iow8Command 0) ∧ decodeTableWord 16 0x1000 = some (.ctlInvalid 0 .r8) ∧
      decodeTableWord 16 0x2010 = some (.bmMultibyte 16 .r16) ∧ decodeTableWord 8 0xEC = some .identify ∧
      decodeTableWord 8 0x28 = some (.read10 0 0) ∧
      decodeTableWord 64 0x8000010000002000 = some (.prdEntry 0x2000 0x0100 0 true) := by decide +kernel

/-! ## Small states -/

/-- The state of an outcome; the reset state where there is none. -/
def after (r : Result) : State :=
  match r with
  | .next t => t
  | .fault _ => State.reset
  | .refused _ => State.reset

/-- The disk with its register file changed. -/
def disk (f : Drive → Drive) : State := State.reset.withDrive (f State.reset.sel)

/-- The CD-ROM drive selected, with its register file changed. -/
def cdrom (f : Drive → Drive) : State :=
  let s := { State.reset with selectedDrive := .slave }
  s.withDrive (f s.sel)

/-- The same block with `P_DEFER`. -/
def deferring (s : State) : State := { s with cfg := { s.cfg with defer := true } }

/-- The disk's task file at an LBA below 256. -/
def atLba (n count : Byte) : Drive → Drive := fun x => { x with head := 0x40, sectorNumber := n, sectorCount := count }

/-- An open data phase. -/
def phase (p : DriveState) (command : Byte) (unit pos : Nat) : Drive → Drive := fun x =>
  { x with status := 0x48, state := p, command := command, unitSize := unit, sectorPos := pos }

/-- A drive that waits for a packet, with a byte count. -/
def awaiting (byteCount : Half) : Drive → Drive := fun x =>
  { phase .packetReceive 0xA0 12 0 x with cylinder := byteCount }

/-- A device whose next block call answers SHORT. -/
def short (s : State) : State := s.withDevice { s.selDevice with shorts := [true] }

/-- An item of a packet command's data. -/
def packetItem (pos left drq : Nat) : State :=
  let s := cdrom fun x => { phase .pioRead 0xA0 2048 pos x with drqPos := drq, cylinder := 0x0800 }
  s.withCd { s.selCd with remainingBytes := left }

/-- A disk that waits for the engine, with BM_COMMAND at a value. -/
def armed (bmCommand command : Byte) : State :=
  let s := disk fun x => { phase .dmaActive command 512 0 x with dmaLbaStart := 5, dmaLbaCount := 1 }
  { s with bm := { s.bm with command := bmCommand } }

/-- A walker at the first and at the last byte of its unit. -/
def walkerAt (pos units : Nat) : Walker :=
  { p := 0x1000, addr := 0x2000, cnt := 0, last := false, pos := pos, units := units, lba := 5, toMem := true,
    unit := 512, failed := false }

/-- A walker with a span of two bytes open, in either direction. -/
def spanAt (toMem : Bool) (pos : Nat) : Walker := { walkerAt pos 1 with cnt := 2, toMem := toMem }

/-! ## One step of each family -/

/-- V1: reads after reset. -/
theorem test_status_read_after_reset :
    (after (exec .ior8Status State.reset)).rdata = 0x40 ∧
      (after (exec .ior8Status State.reset)).events = [.irqCancel] := by decide
theorem test_status2_read_has_no_event :
    (after (exec .ior8Status2 State.reset)).rdata = 0x40 ∧ (after (exec .ior8Status2 State.reset)).events = [] := by
  decide
/-- V2: the signature of the ATAPI slave. -/
theorem test_signature_low : (after (exec .ior8CylLsb (cdrom id))).rdata = 0x14 := by decide
theorem test_signature_high : (after (exec .ior8CylMsb (cdrom id))).rdata = 0xEB := by decide
/-- V3: `0xEF` selects drive 0 and is stored whole. -/
theorem test_drive_head_write :
    (after (exec (.iow8DriveHead 0xEF) (cdrom id))).selectedDrive = .master ∧
      (after (exec (.iow8DriveHead 0xEF) (cdrom id))).drives.master.head = 0xEF := by decide
theorem test_cylinder_high_write :
    (after (exec (.iow8CylMsb 0x12) (disk fun x => { x with cylinder := 0x0034 }))).sel.cylinder = 0x1234 := by decide
/-- V4: an absent drive (configuration K0). -/
theorem test_absent_drive_command :
    let s := cdrom id
    let k0 := { s with cfg := { s.cfg with drives := { s.cfg.drives with slave := { standardCdRom with installed := false } } } }
    (after (exec (.iow8Command 0xEC) k0)).sel.status = 0x01 ∧ (after (exec (.iow8Command 0xEC) k0)).sel.error = 0x04 ∧
      (after (exec (.iow8Command 0xEC) k0)).irqPending = false := by decide
/-- V5: a width error in an open phase reads `0x49`. -/
theorem test_width_error_in_a_phase :
    (after (exec (.widthError .cmd 7 .r16) (disk (phase .pioRead 0xEC 512 0)))).sel.status = 0x49 := by decide
/-- V6: an empty offset of the control window. -/
theorem test_ctl_invalid_write :
    (after (exec (.ctlInvalid 0 (.w8 0xFF)) State.reset)).sel.status = 0x41 := by decide
/-- V8: nIEN gates the raise. -/
theorem test_nien_gates :
    (after (exec .standbyImmediate (disk fun x => { x with outputControl := 0x02 }))).irqPending = false := by decide
/-- V9: the software reset keeps the selection, the bus-master registers and `outputControl`. -/
theorem test_software_reset :
    let s := { cdrom (phase .pioRead 0xA1 512 8) with bm := { command := 0x08, status := 0x00, udmaTiming := 0, prdPtr := 0x1000 } }
    let t := after (exec (.iow8Output 0x04) s)
    t.selectedDrive = .slave ∧ t.bm.prdPtr = 0x1000 ∧ t.sel.outputControl = 0x04 ∧ t.sel.status = 0x40 ∧
      t.sel.cylinder = 0xEB14 ∧ t.sel.head = 0x10 ∧ t.sel.state = .idle := by decide
/-- V22: a byte that is no command. -/
theorem test_unknown_command :
    (after (exec (.ataUnknown 0x91) State.reset)).sel.status = 0x41 ∧
      (after (exec (.ataUnknown 0x91) State.reset)).sel.command = 0x91 ∧
      (after (exec (.ataUnknown 0x91) State.reset)).irqPending = true := by decide
/-- V21: a wrong protocol. -/
theorem test_wrong_protocol :
    (after (exec .identify (cdrom id))).sel.error = 0x04 ∧ (after (exec .packet State.reset)).sel.status = 0x41 := by
  decide
/-- V23. -/
theorem test_set_features :
    (after (exec .setFeatures (disk fun x => { x with feature := 0x03 }))).sel.status = 0x40 ∧
      (after (exec .setFeatures (disk fun x => { x with feature := 0x55 }))).sel.status = 0x41 := by decide
/-- V24: the device calls of FLUSH_CACHE, the latest first. -/
theorem test_flush_calls :
    (after (exec .flushCache State.reset)).events =
      [.irqRaise, .device .master .release, .device .master .flush, .device .master .acquire] := by decide
/-- V28: CHS sector 0. -/
theorem test_chs_sector_zero :
    (after (exec .readSector (disk fun x => { x with sectorNumber := 0 }))).sel.status = 0x41 := by decide
/-- V29: CHS addresses and the wrap of every field. -/
theorem test_chs_addresses :
    makeLogical standardDisk { State.reset.sel with cylinder := 3, head := 0x0F, sectorNumber := 63 } = 4031 ∧
      (incAddress standardDisk { State.reset.sel with cylinder := 0, head := 0x0F, sectorNumber := 63 }).cylinder = 1 ∧
      (incAddress standardDisk { State.reset.sel with cylinder := 0xFFFF, head := 0x4F, sectorNumber := 0xFF }).head = 0x40 := by
  decide +kernel
/-- V30: the write phase opens with no interrupt. -/
theorem test_write_sector_opens :
    (after (exec .writeSector State.reset)).sel.state = .pioWrite ∧
      (after (exec .writeSector State.reset)).irqPending = false := by decide
/-- V34: the whole range is checked; a count of 0 is 256 blocks. -/
theorem test_dma_range :
    (after (exec .readDma (disk fun x => { x with head := 0x40, cylinder := 0x0F, sectorNumber := 0xBE, sectorCount := 3 }))).sel.status = 0x41 ∧
      (after (exec .writeDma (disk fun x => { x with head := 0x40, cylinder := 0x0E, sectorNumber := 0xC0, sectorCount := 0 }))).sel.dmaLbaCount = 256 := by
  decide +kernel
/-- V40: the packet phase. -/
theorem test_packet_phase :
    (after (exec .packet (cdrom fun x => { x with feature := 0x01 }))).selCd.dma = true ∧
      (after (exec .packet (cdrom id))).sel.sectorCount = 0x01 ∧
      (after (exec .packet (cdrom id))).irqPending = false := by decide
/-- V41, V48: an unknown packet, and the sense data it leaves. -/
theorem test_unknown_packet :
    (after (exec (.pktUnknown 0x00) (cdrom (awaiting 36)))).selCd.asc = 0x24 ∧
      (after (exec (.pktUnknown 0x00) (cdrom (awaiting 36)))).sel.error = 0x50 := by decide +kernel
/-- V43, V44: both branches of the clipping. -/
theorem test_clipping_first :
    (after (exec (.inquiry 20) (cdrom (awaiting 17)))).sel.cylinder = 16 ∧
      (after (exec (.inquiry 20) (cdrom (awaiting 17)))).selCd.remainingBytes = 20 := by decide +kernel
theorem test_clipping_second :
    (after (exec (.inquiry 10) (cdrom (awaiting 17)))).sel.cylinder = 10 := by decide +kernel
/-- V45: byte count zero. -/
theorem test_byte_count_zero :
    (after (exec (.requestSense 36) (cdrom (awaiting 0)))).fault = some .byteCountZero ∧
      (after (exec (.requestSense 36) (cdrom (awaiting 0)))).sel.state = .packetReceive := by decide +kernel
/-- V53: not ready; beyond the capacity. -/
theorem test_read10_errors :
    let s := cdrom (awaiting 0x0800)
    (after (exec (.read10 16 1) (s.withDevice { s.selDevice with ready := false }))).sel.error = 0x20 ∧
      (after (exec (.read10 99 2) s)).sel.error = 0x50 ∧ (after (exec (.read10 0xFFFFFFFF 1) s)).selCd.asc = 0x21 := by
  decide +kernel
/-- V54. -/
theorem test_read12_cursor : (after (exec (.read12 5 1) (cdrom (awaiting 0x0800)))).selCd.nextLba = 6 := by
  decide +kernel
/-- V55: the sub-commands of READ_CD. -/
theorem test_read_cd :
    (after (exec (.readCd 16 1 0x20 0) (cdrom (awaiting 0x0930)))).sel.error = 0x50 ∧
      (after (exec (.readCd 16 1 0x07 0) (cdrom (awaiting 0x0930)))).sel.status = 0x40 ∧
      (after (exec (.readCd 16 1 0xF8 0) (cdrom (awaiting 0x0930)))).selCd.remainingBytes = 2352 := by decide +kernel
/-- V56: undefined payloads. -/
theorem test_undefined_payloads :
    (after (exec (.modeSense6 0 0x2A 24) (cdrom (awaiting 36)))).sel.error = 0x50 ∧
      (after (exec (.modeSense10 0 0x2A 28) (cdrom (awaiting 36)))).sel.error = 0x50 ∧
      (after (exec (.readDvdStructure 0 0 0 8) (cdrom (awaiting 36)))).sel.status = 0x41 := by decide +kernel
/-- V57: the default table of contents. -/
theorem test_read_toc :
    (after (exec (.readToc false 0 0 20) (cdrom (awaiting 20)))).sel.buffer.drop 12 =
      [0x00, 0x14, 0xAA, 0x00, 0x00, 0x00, 0x00, 0x64] := by decide +kernel
theorem test_read_toc_calls :
    (after (exec (.readToc false 0 0 20) (cdrom (awaiting 20)))).events =
      [.irqRaise, .device .slave .getCapacity, .device .slave .isReady] := by decide +kernel
/-- 10_state.md R36, R45 (a): the last item of a packet's data at its unit's end takes the cursor back to 0. -/
theorem test_packet_completion_wraps_the_cursor :
    let t := after (exec .ior16Data (packetItem 2046 2 2046))
    t.sel.sectorPos = 0 ∧ t.sel.status = 0x40 ∧ t.sel.state = .idle := by decide +kernel
/-- 00_scope.md R8 (D16): with no capacity configured it is the product of the geometry, 4 x 16 x 63. -/
theorem test_capacity_without_lba :
    ({ standardDisk with lbaCapacity := none } : DriveConfig).capacity = 4032 := by decide +kernel
/-- V70: register storage and the byte decomposition. -/
theorem test_wide_prdptr_write :
    (after (exec (.bmMultibyte 4 (.w32 0x12345677)) State.reset)).bm.prdPtr = 0x12345677 := by decide +kernel
theorem test_wide_write_past_the_half :
    let s := { State.reset with bm := { State.reset.bm with prdPtr := 0xABCD5677 } }
    (after (exec (.bmMultibyte 6 (.w32 0x11223344)) s)).bm.prdPtr = 0x33445677 := by decide +kernel
theorem test_bm_command_write :
    (after (exec (.iow8BmCommand 0xFF) State.reset)).bm.command = 0x09 ∧
      (after (exec (.iow8BmCommand 0xFF) State.reset)).bm.status = 0x01 := by decide
/-- V70: the 32-bit read of the first four registers. -/
theorem test_wide_read :
    let s := { State.reset with bm := { command := 0x09, status := 0x01, udmaTiming := 0xAB, prdPtr := 0x12345677 } }
    (after (exec (.bmMultibyte 0 .r32) s)).rdata = 0xAB010009 := by decide +kernel
/-- V71: what a write of BM_STATUS stores. -/
theorem test_bm_status_write :
    (after (exec (.iow8BmStatus 0x70) State.reset)).bm.status = 0x70 ∧
      (after (exec (.iow8BmStatus 0x81) { State.reset with bm := { State.reset.bm with status := 0x70 } })).bm.status = 0x00 := by
  decide
/-- V72: the alias. -/
theorem test_cfg_alias :
    (after (exec (.cfgAlias 0x54 (.w32 0x00100000)) State.reset)).bm.prdPtr = 0x00100000 := by decide +kernel

/-- V80: a SHORT answer marks the walk failed with memory untouched, and the next step is the error exit. -/
theorem test_short_read_in_a_walk :
    let s := short (armed 0x09 0xC8)
    let t := walkStep (spanAt true 0) s
    t.walk = .running { spanAt true 0 with failed := true } ∧ t.mem = s.mem ∧ t.sel.status = 0x48 ∧
      (walkStep { spanAt true 0 with failed := true } t).bm.status = 0x02 ∧
      (walkStep { spanAt true 0 with failed := true } t).irqPending = false := by decide +kernel

/-! ## A step from the queue -/

/-- The next instruction of a word comes first. -/
theorem test_fetch_word : step (State.reset.withFetchWord 8 0xE0) = exec .standbyImmediate State.reset := rfl

/-! ## States that meet the hypotheses of the statements -/

/-- The invariants hold right after reset: each part is a closed fact. -/
theorem test_reset_invariant : ChannelInv State.reset := by
  refine ⟨by decide +kernel, ?_, ?_, rfl, ?_, ?_⟩
  · exact ⟨by decide, by decide, by decide, by decide, by decide, by decide, by decide, by decide⟩
  · exact ⟨by decide, by decide, by decide, by decide, by decide, by decide, by decide, by decide⟩
  · exact ⟨by decide, by decide, by decide, by decide, by decide⟩
  · decide

theorem test_witness_DecodeEncodeAgree :
    Instr.wellFormed .primary (.readCd 0xFFFFFFFF 0xFFFFFF 0xFF 7) = true ∧
      Instr.wellFormed .secondary (.bmOtherChannel 7 (.w8 0xFF)) = true ∧
      Instr.wellFormed .primary (.droppedWrite .cmd 7 (.w32 0)) = true := by decide

theorem test_witness_IoBytesHaveOneMeaning :
    decode whileBusy .io [0x07, 0x80, 1, 0xEC] = .ok (.droppedWrite .cmd 7 (.w8 0xEC)) ∧
      decode onSecondary .io [0xFF, 0x20, 2] = .ok (.bmMultibyte 0xFF .r16) := ⟨rfl, rfl⟩

/-- One request in the queue of the reset state. -/
def withRequest (f : Format) (bytes : List Byte) (s : State) : State := { s with inbox := [.request f bytes] }

theorem test_witness_StepRunsDecodedRequest :
    (withRequest .ata [0xE0] State.reset).fault = none ∧
      decode (withRequest .ata [0xE0] State.reset).decodeContext .ata [0xE0] = .ok .standbyImmediate ∧
      (∃ t, exec .standbyImmediate (withRequest .ata [0xE0] State.reset) = .next t) := ⟨rfl, rfl, _, rfl⟩

/-- A refused start: the direction bit against READ_DMA. -/
theorem test_witness_StepRunsDecodedRequest_refused :
    let s := withRequest .ata [0xC8] { State.reset with bm := { State.reset.bm with command := 0x01 } }
    s.fault = none ∧ decode s.decodeContext .ata [0xC8] = .ok .readDma ∧
      exec .readDma s = .refused .directionMismatch := ⟨rfl, rfl, rfl⟩

theorem test_witness_ParametersNeverChange :
    (∃ t, exec .packet (cdrom id) = .next t) ∧ ∃ t, step State.reset = .next t := ⟨⟨_, rfl⟩, _, rfl⟩

theorem test_witness_FaultedBlockTakesNoStep :
    { State.reset with fault := some .byteCountZero }.fault = some .byteCountZero := rfl

theorem test_witness_ResetMeetsTheInvariants : Config.standard.wf = true := by decide +kernel

theorem test_witness_ChannelInvariantKept :
    ChannelInv (withRequest .ata [0xA1] State.reset) ∧ ∃ t, step (withRequest .ata [0xA1] State.reset) = .next t :=
  ⟨test_reset_invariant, _, rfl⟩

theorem test_witness_MemoryCanonicalKept :
    Memory.wf ({ State.reset with mem := [(5, 0x01)], inbox := [.memoryStore 6 0x02] } : State).mem = true ∧
      ∃ t, step { State.reset with mem := [(5, 0x01)], inbox := [.memoryStore 6 0x02] } = .next t :=
  ⟨by decide, _, rfl⟩

theorem test_witness_InterruptLineFollowsPending :
    (withRequest .ata [0xE0] State.reset).irqLine = (withRequest .ata [0xE0] State.reset).irqPending ∧
      ∃ t, step (withRequest .ata [0xE0] State.reset) = .next t := ⟨rfl, _, rfl⟩

/-- The drive not selected, an instruction that does not reach it, and a worker's turn on a deferred command. -/
theorem test_witness_OnlySelectedDriveTouched :
    DriveId.slave ≠ State.reset.selectedDrive ∧ reachesBothDrives .readSector = false ∧
      (∃ t, exec .readSector State.reset = .next t) ∧
      ∃ t, workerStep (after (exec .readSector (deferring State.reset))) = .next t :=
  ⟨by decide, rfl, ⟨_, rfl⟩, _, rfl⟩

theorem test_witness_GuestMemoryOnlyByWalks :
    (mayStartWalk .readSector = false ∧ ∃ t, exec .readSector State.reset = .next t) ∧
      (deferring State.reset).cfg.defer = true ∧ ∃ t, exec .readDma (deferring State.reset) = .next t :=
  ⟨⟨rfl, _, rfl⟩, rfl, _, rfl⟩

theorem test_witness_ErrorAndStatus2Reads :
    Live State.reset ∧ AcceptingCommand State.reset .ata ∧ interruptGated State.reset = false := by decide

theorem test_witness_SectorAndCylinderRegisters : Live State.reset ∧ Accepting State.reset := by decide

/-- Either drive selected, with its own head. -/
theorem test_witness_CountFeatureAndHeadRegisters :
    ∀ s ∈ [State.reset, cdrom id], Live s ∧ Accepting s ∧ driveSelected s.sel.head = s.selectedDrive := by decide

/-- Both values of the selection bit. -/
theorem test_witness_DriveHeadSelects :
    Accepting (cdrom id) ∧ (0x10 : Byte).getLsbD 4 = true ∧ (0xEF : Byte).getLsbD 4 = false := by decide

theorem test_witness_StatusReadCancelsInterrupt :
    Live (deferring State.reset) ∧ AcceptingCommand State.reset .ata ∧ interruptGated State.reset = false := by
  decide

theorem test_witness_CommandWriteRunsItsByte :
    Accepting State.reset ∧ isStart State.reset.bm.command = false ∧ State.reset.selCfg.installed = true := by decide

/-- START set: a command that is no DMA, one that is deferred, one whose range is refused. -/
theorem test_witness_CommandWriteRunsItsByte_start :
    let s := { disk (atLba 5 1) with bm := { State.reset.bm with command := 0x09 } }
    let x := s.withDrive { s.sel with head := 0, sectorNumber := 0 }
    Accepting s ∧ isStart s.bm.command = true ∧ ¬((0xEC : Byte) = 0xC8 ∨ (0xEC : Byte) = 0xCA) ∧
      Accepting (deferring s) ∧ ¬(deferring s).cfg.defer = false ∧ Accepting x ∧ ¬rangeAddressable x = true := by
  decide +kernel

theorem test_witness_OutputWriteAndSoftwareReset :
    Accepting State.reset ∧ (0x02 : Byte).getLsbD 2 = false ∧ (0xFF : Byte).getLsbD 2 = true := by decide

/-- A read while an operation is outstanding; a write while none is. -/
theorem test_witness_AccessErrorsSetErr :
    (Live { deferring State.reset with slot := { State.reset.slot with op := .read } } ∧
        (Access.isWrite .r16 = true → State.reset.slot.op = .idle)) ∧
      Live State.reset ∧ (Access.isWrite (.w16 0) = true → State.reset.slot.op = .idle) := by decide

/-- A block with a deferred command outstanding. -/
def busyBlock : State := after (exec .readSector (deferring State.reset))

theorem test_witness_BusyWritesAreDropped :
    Live busyBlock ∧ busyBlock.slot.op ≠ .idle ∧ isRegisterWrite (.iow8Output 4) = true ∧
      isRegisterWrite .readDma = true ∧ isRegisterWrite (.read10 0 1) = true ∧ (7 : Byte).toNat < 8 ∧
      Access.isWrite (.w32 0) = true ∧ Access.isWrite .r32 = false ∧
      (withRequest .io (ioBytes .cmd 7 (.w32 0)) busyBlock).inbox = [.request .io (ioBytes .cmd 7 (.w32 0))] ∧
      (withRequest .io (ioBytes .ctl 0xFF (.w8 0)) busyBlock).slot.op ≠ .idle := by decide

theorem test_witness_BusMasterPlainRegisters :
    Live State.reset ∧ Access.isWrite .r8 = false ∧ Access.isWrite (.w8 1) = true := by decide

/-- The blocked mask of Configuration K, and the largest one. -/
theorem test_witness_BusMasterStatusWriteBits :
    Live State.reset ∧ State.reset.cfg.iblkMask &&& 0x67 = 0 ∧ (0x98 : Byte) &&& 0x67 = 0 ∧ onPrimary.channel = .primary ∧
      onSecondary.channel = .secondary := by decide

/-- A rising START on an idle drive; START kept and falling on a drive whose deferred walk runs. -/
theorem test_witness_BusMasterCommandEdges :
    (Live State.reset ∧ State.reset.sel.state ≠ .dmaActive ∧ State.reset.bm.command.getLsbD 0 = false ∧
        (0x09 : Byte).getLsbD 0 = true) ∧
      let s := { deferring (armed 0x09 0xC8) with walk := .pending }
      Live s ∧ s.bm.command.getLsbD 0 = true ∧ (0x08 : Byte).getLsbD 0 = false ∧ s.sel.state = .dmaActive ∧
        ∀ v ∈ [0x09#8, 0x08#8],
          s.bm.command.getLsbD 0 = false → v.getLsbD 0 = true → s.sel.state ≠ .dmaActive := by
  decide

/-- The first and the last offset whose bytes stay in the window's eight bits, a write, a read, BM_PRDPTR whole. -/
theorem test_witness_WideAccessesAreByteAccesses :
    Live State.reset ∧ (0 : Byte).toNat + 3 < 256 ∧ (252 : Byte).toNat + 3 < 256 ∧ Access.isWrite .r32 = false ∧
      Access.isWrite (.w16 0) = true ∧ State.reset.sel.state ≠ .dmaActive ∧
      (4 : Byte).toNat = State.reset.cfg.channel.base + 4 := by decide

/-- The first and the last offset of the alias. -/
theorem test_witness_ConfigAliasIsBusMaster :
    (0x50 : Byte).toNat = State.reset.cfg.cfgBmBase + 0 ∧ (0x5F : Byte).toNat = State.reset.cfg.cfgBmBase + 15 ∧
      Live State.reset ∧ State.reset.sel.state ≠ .dmaActive := by
  decide

theorem test_witness_ConfigOutsideAliasIsFramework :
    Live State.reset ∧ (0x4F : Byte).toNat < State.reset.cfg.cfgBmBase ∧
      State.reset.cfg.cfgBmBase + 16 ≤ (0x60 : Byte).toNat := by decide

/-- The first item of a unit, and the last but one. -/
theorem test_witness_DataReadInsideUnit :
    (∀ pos ∈ [0, 508], let s := disk (phase .pioRead 0xEC 512 pos)
      Live s ∧ s.sel.state = .pioRead ∧ s.sel.status.getLsbD 7 = false ∧ s.sel.command ≠ 0xA0 ∧
        s.sel.sectorPos + 2 < s.sel.unitSize) := by decide

theorem test_witness_IdentifyDataEnds :
    let s := disk (phase .pioRead 0xEC 512 510)
    Live s ∧ s.sel.state = .pioRead ∧ s.sel.status.getLsbD 7 = false ∧ s.sel.command ≠ 0xA0 ∧
      s.sel.command ≠ 0x20 ∧ s.sel.unitSize ≤ s.sel.sectorPos + 2 := by decide

/-- The last item of a unit of READ_SECTOR at block `n` with a count. -/
def lastReadItem (n count : Byte) : State := disk fun x => atLba n count (phase .pioRead 0x20 512 510 x)

/-- The last block of the medium, in an open phase of READ_SECTOR or WRITE_SECTOR. -/
def lastBlock (s : State) : State := s.withDrive { s.sel with cylinder := 0x0F, sectorNumber := 0xBF }

theorem test_witness_ReadSectorUnitBoundary :
    let s := lastReadItem 5 2
    Live s ∧ s.sel.state = .pioRead ∧ s.sel.status.getLsbD 7 = false ∧ s.sel.command = 0x20 ∧
      s.sel.unitSize ≤ s.sel.sectorPos + 2 ∧ s.sel.sectorCount ≠ 1 ∧ s.cfg.defer = false := by decide

/-- The last unit; the deferred one; the one past the last block; the device's two answers. -/
theorem test_witness_ReadSectorUnitBoundary_clauses :
    (lastReadItem 5 1).sel.sectorCount = 1 ∧ (deferring (lastReadItem 5 0)).cfg.defer = true ∧
      ¬makeLogical standardDisk (incAddress standardDisk (lastBlock (lastReadItem 5 2)).sel) < 4032 ∧
      makeLogical standardDisk (incAddress standardDisk (lastReadItem 5 2).sel) = 6 ∧
      addressOk standardDisk (incAddress standardDisk (lastReadItem 5 2).sel) = true ∧
      (readBlockAt 6 512 (short (lastReadItem 5 2))).2 = none ∧
      (readBlockAt 6 512 (lastReadItem 5 2)).2.isSome = true := by decide +kernel

/-- The last bytes; inside a unit with and without a block announced; the device's two answers at the end. -/
theorem test_witness_PacketDataBoundary :
    (∀ s ∈ [packetItem 0 1 0, packetItem 0 2 0, packetItem 100 10 2046, packetItem 100 10 0, packetItem 2046 10 2046,
        short (packetItem 2046 10 2046)],
      Live s ∧ s.sel.state = .pioRead ∧ s.sel.status.getLsbD 7 = false ∧ s.sel.command = 0xA0) ∧
      (packetItem 0 1 0).selCd.remainingBytes - 2 = 0 ∧ (packetItem 100 10 0).selCd.remainingBytes - 2 ≠ 0 ∧
      (packetItem 2046 10 2046).sel.unitSize ≤ (packetItem 2046 10 2046).sel.sectorPos + 2 ∧
      (packetItem 100 10 0).sel.sectorPos + 2 < (packetItem 100 10 0).sel.unitSize ∧
      (readBlockAt 0 2048 (packetItem 2046 10 2046)).2.isSome = true ∧
      (readBlockAt 0 2048 (short (packetItem 2046 10 2046))).2 = none := by decide +kernel

theorem test_witness_ClosedDataRegister :
    Live State.reset ∧ ¬(State.reset.sel.state = .pioRead ∧ State.reset.sel.status.getLsbD 7 = false) ∧
      ¬((State.reset.sel.state = .pioWrite ∨ State.reset.sel.state = .packetReceive) ∧
        State.reset.sel.status.getLsbD 7 = false) := by decide

/-- The first item of a unit, and the last but one, of both phases. -/
theorem test_witness_DataWriteInsideUnit :
    (∀ s ∈ [disk (phase .pioWrite 0x30 512 0), disk (phase .pioWrite 0x30 512 508), cdrom (phase .packetReceive 0xA0 12 8)],
      Accepting s ∧ (s.sel.state = .pioWrite ∨ s.sel.state = .packetReceive) ∧ s.sel.status.getLsbD 7 = false ∧
        s.sel.sectorPos + 2 < s.sel.unitSize ∧ s.sel.sectorPos + 2 ≤ s.cfg.maxBlock) := by decide

theorem test_witness_SixWordsRunThePacket :
    let s := cdrom (awaiting 36)
    (encode .primary (.inquiry 36)).1 = .pkt ∧ Instr.wellFormed .primary (.inquiry 36) = true ∧ AwaitingPacket s ∧
      s.sel.sectorPos = 0 ∧ s.sel.unitSize = 12 ∧ 12 ≤ s.cfg.maxBlock := by decide

/-- A READ_CD whose expected sector type and bits 7:3 of byte 10 are not 0, and an unknown opcode with bytes after it. -/
theorem test_witness_SixWordsRunThePacket_any :
    let b : List Byte := [0xBE, 0x1C, 0, 0, 0, 5, 0, 0, 1, 0x10, 0xF8, 0xFF]
    let x : List Byte := [0x1B, 1, 2, 3, 4, 5, 6, 7, 8, 9, 10, 11]
    b.length = 12 ∧ decode onPrimary .pkt b = .ok (.readCd 5 1 0x10 0) ∧ b ≠ encodePacket (.readCd 5 1 0x10 0) ∧
      x.length = 12 ∧ x.getD 0 0 ∉ [0x03#8, 0x12#8, 0x1A#8, 0x28#8, 0x43#8, 0x5A#8, 0xA8#8, 0xAD#8, 0xBE#8] := by
  decide

/-- The last item of a unit of WRITE_SECTOR. -/
def lastWriteItem (n count : Byte) : State := disk fun x => atLba n count (phase .pioWrite 0x30 512 510 x)

theorem test_witness_WriteSectorUnitBoundary :
    (∀ s ∈ [lastWriteItem 5 1, lastWriteItem 5 0, lastWriteItem 5 2],
      Accepting s ∧ s.sel.state = .pioWrite ∧ s.sel.status.getLsbD 7 = false ∧
        s.sel.unitSize ≤ s.sel.sectorPos + 2) ∧
      (addressOk standardDisk (lastWriteItem 5 2).sel = true ∧ makeLogical standardDisk (lastWriteItem 5 2).sel < 4032) ∧
      ¬makeLogical standardDisk
        { (lastWriteItem 0xC0 2).sel with cylinder := 0x0F } < 4032 ∧
      (writeBlockAt 5 [] (lastWriteItem 5 2)).2 = true ∧ (writeBlockAt 5 [] (short (lastWriteItem 5 2))).2 = false := by
  decide +kernel

theorem test_witness_StandbyAndSleepComplete : Accepting (cdrom id) ∧ (cdrom id).selCfg.installed = true := by decide

theorem test_witness_FlushAndSetFeatures :
    Accepting State.reset ∧ State.reset.selCfg.installed = true ∧ (0x03 : Byte) ∈ State.reset.cfg.features ∧
      State.reset.sel.feature ∉ State.reset.cfg.features := by decide

theorem test_witness_IdentifyLoadsBlock :
    AcceptingCommand State.reset .ata ∧ AcceptingCommand (cdrom id) .atapi ∧ 512 ≤ State.reset.cfg.maxBlock := by decide

/-- The block addressed, one that is not, and the device's two answers. -/
theorem test_witness_ReadSectorLoadsUnit :
    let s := disk (atLba 5 1)
    AcceptingCommand s .ata ∧ s.cfg.defer = false ∧ addressOk s.selCfg s.sel = true ∧
      makeLogical s.selCfg s.sel < s.selCfg.capacity ∧ addressOk standardDisk { s.sel with head := 0, sectorNumber := 0 } = false ∧
      (readBlockAt 5 512 s).2.isSome = true ∧ (readBlockAt 5 512 (short s)).2 = none := by decide +kernel

theorem test_witness_WriteSectorOpensPhase :
    let s := disk (atLba 5 1)
    AcceptingCommand s .ata ∧ s.cfg.defer = false ∧ addressOk s.selCfg s.sel = true ∧
      makeLogical s.selCfg s.sel < s.selCfg.capacity ∧
      ¬makeLogical s.selCfg { s.sel with cylinder := 0x0F, sectorNumber := 0xC0 } < s.selCfg.capacity := by
  decide +kernel

/-- The last range that fits the medium, and the first that does not. -/
theorem test_witness_DmaCommandsArm :
    let s := disk (atLba 5 1)
    AcceptingCommand s .ata ∧ s.cfg.defer = false ∧ isStart s.bm.command = false ∧
      addressOk s.selCfg s.sel = true ∧
      makeLogical s.selCfg { s.sel with cylinder := 0x0E, sectorNumber := 0xC0 } + 256 = s.selCfg.capacity ∧
      ¬makeLogical s.selCfg { s.sel with cylinder := 0x0E, sectorNumber := 0xC1 } + 256 ≤ s.selCfg.capacity := by
  decide +kernel

/-- The refused range with START set. -/
theorem test_witness_DmaCommandsArm_start :
    let s := { disk (fun x => { atLba 0xC1 0 x with cylinder := 0x0E }) with bm := { State.reset.bm with command := 0x09 } }
    AcceptingCommand s .ata ∧ s.cfg.defer = false ∧ isStart s.bm.command = true ∧ s.sel.sectorCount = 0 ∧
      ¬makeLogical s.selCfg s.sel + 256 ≤ s.selCfg.capacity := by decide +kernel

theorem test_witness_DeferredCommandsAreHandedOver :
    AcceptingCommand (deferring State.reset) .ata ∧ (deferring State.reset).cfg.defer = true := by decide

theorem test_witness_DeferredEqualsImmediate :
    AcceptingCommand State.reset .ata ∧ State.reset.walk = .idle ∧
      (∃ t, exec .readSector { State.reset with cfg := { State.reset.cfg with defer := false } } = .next t) ∧
      (∃ t, exec .writeSector { State.reset with cfg := { State.reset.cfg with defer := false } } = .next t) ∧
      isStart State.reset.bm.command = false ∧
      ∃ t, exec .readDma { State.reset with cfg := { State.reset.cfg with defer := false } } = .next t :=
  ⟨by decide, rfl, ⟨_, rfl⟩, ⟨_, rfl⟩, rfl, _, rfl⟩

/-- The end of a unit of READ_SECTOR with another to come. -/
theorem test_witness_DeferredEqualsImmediate_continue :
    let s := lastReadItem 5 2
    (Accepting s ∧ s.walk = .idle ∧ s.sel.state = .pioRead ∧ s.sel.status.getLsbD 7 = false ∧
      s.sel.command = 0x20 ∧ s.sel.unitSize ≤ s.sel.sectorPos + 2 ∧ s.sel.sectorCount ≠ 1) ∧
      ∃ t, exec .ior16Data { s with cfg := { s.cfg with defer := false } } = .next t :=
  ⟨by decide, _, rfl⟩

/-- A DMA command with START set, in both directions. -/
theorem test_witness_DeferredEqualsImmediate_start :
    ∀ c ∈ [0x01#8, 0x09#8],
      let s := { deferring (disk (atLba 5 1)) with bm := { State.reset.bm with command := c } }
      AcceptingCommand s .ata ∧ s.cfg.defer = true ∧ s.walk = .idle ∧ isStart s.bm.command = true ∧
        rangeAddressable s = true ∧ (s.bm.command.getLsbD 3 = true ↔ c = 0x09) := by decide +kernel

/-- A drive that waits for the engine, its walk handed over by each of the three kicks. -/
def handedOver (bmCommand command : Byte) : List State :=
  let s := deferring (armed bmCommand command)
  [{ s with walk := .pending, slot := { op := .write, reg := .cmd, port := 7, data := 0, size := 1 } },
    { s with slot := { op := .write, reg := .bm, port := 0, data := 9, size := 1 } },
    { s with slot := { op := .write, reg := .cmd, port := 0, data := 0, size := 2 } }]

theorem test_witness_DeferredEqualsImmediate_walk :
    (∀ s ∈ handedOver 0x09 0xC8 ++ handedOver 0x01 0xCA,
      Live s ∧ WalkHandedOver s ∧ (s.bm.command.getLsbD 3 = true ↔ s.sel.command ≠ 0xCA) ∧ 0 < s.sel.unitSize) ∧
      ∀ s ∈ handedOver 0x01 0xC8, Live s ∧ WalkHandedOver s ∧
        ¬(s.bm.command.getLsbD 3 = true ↔ s.sel.command ≠ 0xCA) := by decide

theorem test_witness_PacketCommandArms : AcceptingCommand (cdrom id) .atapi := by decide

theorem test_witness_RefusedCommandsAbort :
    Accepting State.reset ∧ State.reset.selCfg.installed = true ∧ State.reset.selCfg.protocol = .ata ∧
      (cdrom id).selCfg.protocol = .atapi ∧ (0x91 : Byte) ∉ ataOpcodes := by decide

/-- An absent drive that accepts a command byte. -/
theorem test_witness_RefusedCommandsAbort_absent :
    let s := { State.reset with cfg := { Config.standard with drives := { Config.standard.drives with master := { standardDisk with installed := false } } } }
    Accepting s ∧ s.selCfg.installed = false := by decide

/-- The three ways the clipping ends: a byte count of 0, or of 1 that does not fit; nothing to send; a data phase. -/
theorem test_witness_ByteCountClipping :
    (cdrom (awaiting 0)).sel.cylinder.toNat = 0 ∧ (cdrom (awaiting 1)).sel.cylinder.toNat % 2 = 1 ∧ ¬36 ≤ 1 ∧
      (cdrom (awaiting 17)).sel.cylinder.toNat ≠ 0 ∧ min 36 0 = 0 ∧ min 36 20 ≠ 0 := by decide

/-- A ready drive that waits for a packet, with the default table of contents, and one with a listed table. -/
theorem test_witness_FixedPayloadPackets :
    let s := cdrom (awaiting 36)
    AwaitingPacket s ∧ s.selDevice.ready = true ∧ s.selCfg.toc = .singleTrack := by decide

theorem test_witness_FixedPayloadPackets_table :
    let s := cdrom (awaiting 36)
    let t := { s with cfg := { s.cfg with drives := s.cfg.drives.set .slave { standardCdRom with toc := .table [] } } }
    AwaitingPacket t ∧ t.selDevice.ready = true ∧ t.selCfg.toc = .table [] := by decide

theorem test_witness_PacketsWithoutData :
    let s := cdrom (awaiting 36)
    AwaitingPacket s ∧ s.selDevice.ready = true ∧ streamRequest (.read10 99 2) = some (99, 2, 2048) ∧
      s.selDevice.capacity < (99 : Word).toNat + 2 ∧ streamRequest (.read12 0 0) = some (0, 0, 2048) ∧
      touchesMedium (.readToc false 0 0 20) = true ∧
      (s.withDevice { s.selDevice with ready := false }).selDevice.ready = false := by decide

/-- The sub-commands of READ_CD: no data, invalid, the two stubs. -/
theorem test_witness_PacketsWithoutData_read_cd :
    ((0x07 : Byte) &&& 0xF8 = 0x00) ∧
      ((0x20 : Byte) &&& 0xF8 ∉ [0x00#8, 0x10#8, 0xF8#8] ∧ (0x20 : Byte).getLsbD 3 = false) ∧
      (1 : BitVec 3) ≠ 0 ∧ ((0x18 : Byte) &&& 0xF8 ∉ [0x00#8, 0x10#8, 0xF8#8] ∧ (0x18 : Byte).getLsbD 3 = true) := by
  decide

/-- The last block of the medium, one block, with either answer of the device. -/
theorem test_witness_StreamedReadOverPio :
    (∀ s ∈ [cdrom (awaiting 0x0800), short (cdrom (awaiting 0x0800))],
      AwaitingPacket s ∧ s.selDevice.ready = true ∧ s.selCd.dma = false ∧
        (99 : Word).toNat + 1 ≤ s.selDevice.capacity) ∧
      streamRequest (.read10 99 1) = some (99, 1, 2048) ∧ streamRequest (.readCd 99 1 0xF8 0) = some (99, 1, 2352) := by
  decide

/-- A CD-ROM drive that waits for a packet with the DMA flag, and BM_COMMAND at a value. -/
def awaitingDma (bmCommand : Byte) : State :=
  let s := cdrom (awaiting 0)
  { s.withCd { s.selCd with dma := true } with bm := { s.bm with command := bmCommand } }

/-- START clear; START set with the walk's direction, without and with deferral; START set against it. -/
theorem test_witness_StreamedReadOverDma :
    (∀ t ∈ [awaitingDma 0x00, awaitingDma 0x09, deferring (awaitingDma 0x09), awaitingDma 0x01],
      AwaitingPacket t ∧ t.selDevice.ready = true ∧ t.selCd.dma = true ∧
        (0 : Word).toNat + 100 ≤ t.selDevice.capacity ∧ 12 ≤ t.cfg.maxBlock) ∧
      streamRequest (.read12 0 100) = some (0, 100, 2048) ∧ isStart (awaitingDma 0x00).bm.command = false ∧
      isStart (awaitingDma 0x09).bm.command = true ∧ isStart (awaitingDma 0x01).bm.command = true ∧
      ((awaitingDma 0x09).bm.command.getLsbD 3 = true ↔ (awaitingDma 0x09).sel.command ≠ 0xCA) ∧
      ¬((awaitingDma 0x01).bm.command.getLsbD 3 = true ↔ (awaitingDma 0x01).sel.command ≠ 0xCA) := by decide

/-- A drive that waits for the engine, without and with deferral, in both directions. -/
theorem test_witness_KickRunsTheWalk :
    (∀ s ∈ [disk (phase .dmaActive 0xC8 512 0), deferring (disk (phase .dmaActive 0xCA 512 0))],
      Live s ∧ s.sel.state = .dmaActive ∧ s.bm.command.getLsbD 0 = false) ∧
      (0x09 : Byte).getLsbD 0 = true ∧ (0x01 : Byte).getLsbD 0 = true ∧
      ((0x09 : Byte).getLsbD 3 = true ↔ (disk (phase .dmaActive 0xC8 512 0)).sel.command ≠ 0xCA) ∧
      ((0x01 : Byte).getLsbD 3 = true ↔ (deferring (disk (phase .dmaActive 0xCA 512 0))).sel.command ≠ 0xCA) ∧
      ¬((0x01 : Byte).getLsbD 3 = true ↔ (disk (phase .dmaActive 0xC8 512 0)).sel.command ≠ 0xCA) ∧
      (let b := { deferring (disk (phase .dmaActive 0xC8 512 0)) with slot := { State.reset.slot with op := .read } }
       Live b ∧ b.sel.state = .dmaActive ∧ b.slot.op ≠ .idle) := by decide

/-- A DMA command with START set, with the direction of either command. -/
theorem test_witness_KickRunsTheWalk_command :
    ∀ c ∈ [0x01#8, 0x09#8], let s := { disk (atLba 5 1) with bm := { State.reset.bm with command := c } }
      AcceptingCommand s .ata ∧ s.cfg.defer = false ∧ isStart s.bm.command = true ∧ rangeAddressable s = true ∧
        (s.bm.command.getLsbD 3 = true ↔ c = 0x09) := by decide +kernel

theorem test_witness_EveryWalkEnds :
    (∀ pos ∈ [0, 511], (walkerAt pos 1).pos < (walkerAt pos 1).unit ∧
      ({ State.reset with walk := .running (walkerAt pos 1) } : State).walk = .running (walkerAt pos 1)) ∧
      0 < State.reset.sel.unitSize := by decide

/-- The table of one descriptor in guest memory. -/
def descriptorAt (p : Nat) (address : Word) (count : Half) (eot : Bool) (m : Memory) : Memory :=
  m.writeSpan p (encode .primary (.prdEntry address count 0 eot)).2

theorem test_witness_DescriptorIsTaken :
    let s := { State.reset with walk := .running (walkerAt 0 1), mem := descriptorAt 0x1000 0x2000 0 true [] }
    Live s ∧ s.walk = .running (walkerAt 0 1) ∧ (walkerAt 0 1).units ≠ 0 ∧ (walkerAt 0 1).cnt = 0 ∧
      s.mem.readSpan s.freeCount (walkerAt 0 1).p.toNat 8 = (encode .primary (.prdEntry 0x2000 0 0 true)).2 ∧
      ¬(walkerAt 0 0).units ≠ 0 ∧ State.reset.walk = .idle ∧
      ({ deferring State.reset with walk := .pending } : State).walk = .pending := by decide +kernel

theorem test_witness_WalkExits :
    ((walkerAt 0 0).failed = false ∧ (walkerAt 0 0).units = 0) ∧ { walkerAt 0 1 with failed := true }.failed = true ∧
      ({ walkerAt 0 1 with last := true }.units ≠ 0 ∧ { walkerAt 0 1 with last := true }.cnt = 0 ∧
        { walkerAt 0 1 with last := true }.last = true) := by decide

/-- The span inside a unit, at its first byte and at its last; the device's two answers; a walk that goes on and one
whose next step is its last. -/
theorem test_witness_WalkTurnByTurn :
    (∀ m ∈ [true, false], ∀ pos ∈ [0, 2, 510],
      (spanAt m pos).failed = false ∧ (spanAt m pos).units ≠ 0 ∧ (spanAt m pos).cnt ≠ 0) ∧
      (0 + min 2 (512 - 0) ≠ 512 ∧ 510 + min 2 (512 - 510) = 512) ∧
      ((armed 0x09 0xC8).selDevice.shorts.headD false = false ∧
        (short (armed 0x09 0xC8)).selDevice.shorts.headD false = true) ∧
      (∀ w ∈ [walkerAt 0 0, walkerAt 0 1], let s := { deferring (armed 0x09 0xC8) with walk := .running w }
        Live s ∧ s.walk = .running w ∧ ((walkStep w s).walk = .idle ↔ w.units = 0)) := by decide +kernel

/-- A sector of known content, split after its first byte: the table's first half at `0x1000`. -/
def splitStart : State :=
  let s := disk fun x => { phase .dmaActive 0xC8 512 0 x with dmaLbaStart := 5, dmaLbaCount := 1 }
  { s.withDevice { s.selDevice with blocks := [(5, List.replicate 512 0x07)] } with
    bm := { s.bm with prdPtr := 0x1003 }
    mem := descriptorAt 0x1008 0x3000 511 true (descriptorAt 0x1000 0x2001 1 false []) }

theorem test_witness_SplitSectorDmaRead :
    Live splitStart ∧ splitStart.cfg.defer = false ∧ splitStart.cfg.iblkMask &&& 0x67 = 0 ∧
      512 ≤ splitStart.cfg.maxBlock ∧ splitStart.bm.command.getLsbD 0 = false ∧ (0x09 : Byte).getLsbD 0 = true ∧
      (0x09 : Byte).getLsbD 3 = true ∧ splitStart.sel.state = .dmaActive ∧ splitStart.sel.command = 0xC8 ∧
      splitStart.sel.unitSize = 512 ∧ splitStart.sel.dmaLbaCount = 1 ∧
      splitStart.selDevice.shorts.headD false = false ∧ (1 : Half) ≠ 0 ∧ (511 : Half) ≠ 0 ∧
      (1 : Half).toNat + (511 : Half).toNat = 512 := by decide

theorem test_witness_SplitSectorDmaRead_table :
    let p := splitStart.bm.prdPtr &&& 0xFFFFFFFC
    let block := blockContent splitStart.selectedDrive splitStart.selDevice splitStart.sel.dmaLbaStart.toNat 512
    (∀ n, splitStart.mem.readSpan n p.toNat 8 = (encode .primary (.prdEntry 0x2001 1 0 false)).2) ∧
      ∀ n, (splitStart.mem.writeSpan 0x2001 (block.take 1)).readSpan n (p + 8).toNat 8 =
        (encode .primary (.prdEntry 0x3000 511 0 true)).2 := by
  refine ⟨fun n => ?_, fun n => ?_⟩
  · exact (Memory.readSpan_inside _ n 0 _ _ (by decide)).trans (by decide +kernel)
  · exact (Memory.readSpan_inside _ n 0 _ _ (by decide)).trans (by decide +kernel)

/-- LBA mode at the last address but one; CHS mode at a sector's, a head's and a cylinder's end. -/
theorem test_witness_AddressAdvanceIsOne :
    let x := { State.reset.sel with head := 0x4F, cylinder := 0xFFFF, sectorNumber := 0xFE }
    let y := { State.reset.sel with head := 0x0F, cylinder := 0xFFFE, sectorNumber := 63 }
    (1 ≤ standardDisk.heads ∧ standardDisk.heads ≤ 16 ∧ 1 ≤ standardDisk.spt ∧ standardDisk.spt ≤ 255) ∧
      (x.head.getLsbD 6 = true ∧ (lbaAddress x).toNat + 1 < 2 ^ 28) ∧
      (y.head.getLsbD 6 = false ∧ 1 ≤ y.sectorNumber.toNat ∧ y.sectorNumber.toNat ≤ standardDisk.spt ∧
        (y.head.extractLsb' 0 4).toNat < standardDisk.heads ∧
        ¬(y.cylinder = 0xFFFF ∧ (y.head.extractLsb' 0 4).toNat + 1 = standardDisk.heads ∧
          y.sectorNumber.toNat = standardDisk.spt)) := by decide

end Sys2Proof.Tests
end

section
/-!
What each meaning leaves alone: the frames of the shared operations carried up to the 63 instructions, the turns of
the worker and the step (10_state.md R20, R21, R45 e). Only the selection and the software reset reach beyond the
selected drive; they have the weaker frame `ChannelFrame`.
-/

namespace Sys2Proof.Machine

/-! ## Results -/

/-- Whatever next state the result answers has the property. -/
def Answers (r : Result) (P : State → Prop) : Prop := ∀ t, r = .next t → P t

theorem Answers.next {P : State → Prop} {s : State} (h : P s) : Answers (.next s) P := by
  intro t e
  cases e
  exact h

theorem Answers.refused {P : State → Prop} (x : Refusal) : Answers (.refused x) P := fun _ e => by cases e

theorem Answers.mono {P Q : State → Prop} {r : Result} (h : Answers r P) (k : ∀ t, P t → Q t) : Answers r Q :=
  fun t e => k t (h t e)

theorem Answers.andThen {P Q : State → Prop} {r : Result} {k : State → Result} (h : Answers r Q)
    (hk : ∀ m, Q m → Answers (k m) P) : Answers (andThen r k) P := fun t e => by
  obtain ⟨m, hm, ht⟩ := andThen_eq_next.mp e
  exact hk m (h m hm) t ht

theorem Answers.hostAccess {P : State → Prop} {s : State} {r : Result} (h : Answers r P) :
    Answers (hostAccess s r) P := fun t e => h t (hostAccess_eq_next.mp e).2

/-- A write runs with no deferred operation outstanding, or is dropped. -/
theorem Answers.hostWrite {P : State → Prop} {s : State} {r : Result} (hs : P s)
    (h : s.slot.op = .idle → Answers r P) : Answers (hostWrite s r) P := fun t e => by
  obtain ⟨-, ⟨hi, hr⟩ | ⟨-, rfl⟩⟩ := hostWrite_eq_next.mp e
  · exact h hi t hr
  · exact hs

/-- The state reached by own work, seen from where it started. -/
theorem OwnWork.then {s u : State} {r : Result} (h : OwnWork s u) (k : Answers r (OwnWork u)) :
    Answers r (OwnWork s) := k.mono fun _ => h.trans

/-! ## The ATA commands -/

theorem OwnWork.completeCommand (s : State) : OwnWork s (completeCommand s) :=
  (OwnWork.withDrive s _).trans (OwnWork.raiseInterrupt _)

theorem OwnWork.identifyBody (s : State) : OwnWork s (identifyBody s) :=
  ((OwnWork.putBuffer s _ _).trans (OwnWork.withDrive _ _)).trans (OwnWork.raiseInterrupt _)

theorem OwnWork.readSectorBody (s : State) : OwnWork s (readSectorBody s) :=
  (OwnWork.loadUnit s).andThen fun u => (OwnWork.withDrive u _).trans (OwnWork.raiseInterrupt _)

theorem OwnWork.writeSectorBody (s : State) : OwnWork s (writeSectorBody s) := by
  unfold Machine.writeSectorBody
  split
  · exact OwnWork.withDrive s _
  · exact OwnWork.raiseError s .abort

theorem OwnWork.armDma (s : State) : OwnWork s (armDma s) :=
  (((OwnWork.withDrive s _).trans (OwnWork.deviceAcquire _)).trans (OwnWork.deviceSeek _ _)).trans
    (OwnWork.deviceRelease _)

theorem OwnWork.dmaBody (s : State) : Answers (dmaBody s) (OwnWork s) := by
  unfold Machine.dmaBody
  split
  · exact (OwnWork.armDma s).then fun _ => OwnWork.kick
  · exact .next (OwnWork.raiseError s .abort)

theorem OwnWork.packetBody (s : State) : OwnWork s (packetBody s) :=
  (OwnWork.withCd s _).trans (OwnWork.withDrive _ _)

theorem OwnWork.setFeaturesBody (s : State) : OwnWork s (setFeaturesBody s) := by
  unfold Machine.setFeaturesBody
  split
  · exact OwnWork.completeCommand s
  · exact OwnWork.raiseError s .abort

theorem OwnWork.flushCacheBody (s : State) : OwnWork s (flushCacheBody s) :=
  (((OwnWork.deviceAcquire s).trans (OwnWork.deviceFlush _)).trans (OwnWork.deviceRelease _)).trans
    (OwnWork.completeCommand _)

theorem OwnWork.acceptCommand (s : State) (v : Byte) : OwnWork s (acceptCommand v s) := OwnWork.withDrive s _

theorem OwnWork.dispatchCommand (s : State) (v : Byte) (ps : List Protocol) (b : Bool) {run : State → Result}
    (h : ∀ u, Answers (run u) (OwnWork u)) : Answers (dispatchCommand v ps b run s) (OwnWork s) := fun t e => by
  obtain ⟨-, ⟨-, rfl⟩ | ⟨-, -, rfl⟩ | ⟨-, -, -, rfl⟩ | ⟨-, -, -, -, -, rfl⟩ | ⟨-, -, -, -, hr⟩⟩ :=
    dispatchCommand_eq_next e
  · exact OwnWork.refl _
  · exact OwnWork.raiseError s .absent
  · exact (OwnWork.acceptCommand s v).trans (OwnWork.raiseError _ .abort)
  · exact (OwnWork.acceptCommand s v).trans (OwnWork.pushSlot _ _)
  · exact (OwnWork.acceptCommand s v).trans (h _ t hr)

/-- A command whose `Exec` answers one next state. -/
theorem OwnWork.dispatchBody (s : State) (v : Byte) (ps : List Protocol) (b : Bool) {body : State → State}
    (h : ∀ u, OwnWork u (body u)) :
    Answers (Machine.dispatchCommand v ps b (fun u => .next (body u)) s) (OwnWork s) :=
  OwnWork.dispatchCommand s v ps b fun u => .next (h u)

/-- A command byte is one of the commands behind the dispatcher, so it works on the selected drive. -/
theorem OwnWork.runCommandByte (s : State) (v : Byte) : Answers (runCommandByte v s) (OwnWork s) := by
  unfold Machine.runCommandByte
  split
  · exact .dispatchBody s _ _ _ .readSectorBody
  · exact .dispatchBody s _ _ _ .writeSectorBody
  · exact .dispatchBody s _ _ _ .packetBody
  · exact .dispatchBody s _ _ _ .identifyBody
  · exact .dispatchCommand s _ _ _ .dmaBody
  · exact .dispatchCommand s _ _ _ .dmaBody
  · exact .dispatchBody s _ _ _ .completeCommand
  · exact .dispatchBody s _ _ _ .completeCommand
  · exact .dispatchBody s _ _ _ .flushCacheBody
  · exact .dispatchBody s _ _ _ .identifyBody
  · exact .dispatchBody s _ _ _ .setFeaturesBody
  · exact .dispatchBody s _ _ _ fun u => .raiseError u .abort

theorem OwnWork.execDeferred (s : State) (v : Byte) : Answers (execDeferred v s) (OwnWork s) := by
  unfold Machine.execDeferred
  split
  · exact .next (.readSectorBody s)
  · exact .next (.writeSectorBody s)
  · exact .dmaBody s
  · exact .dmaBody s
  · exact .next (.refl s)

/-! ## The packet commands -/

theorem OwnWork.checkReady (s : State) {k : State → Result} (hk : ∀ u, Answers (k u) (OwnWork u)) :
    Answers (checkReady s k) (OwnWork s) := by
  unfold Machine.checkReady
  dsimp only
  split
  · exact (OwnWork.deviceCall s .isReady).then (hk _)
  · exact .next ((OwnWork.deviceCall s .isReady).trans (.raiseError _ _))

theorem OwnWork.startStream (s : State) (lba : Word) (len ss : Nat) :
    Answers (startStream lba len ss s) (OwnWork s) := by
  unfold Machine.startStream
  dsimp only
  have h := OwnWork.recordCursor s lba len ss
  split
  · exact (h.trans (.armStreamDma _ lba len ss)).then fun _ => OwnWork.kick
  · exact .next (h.trans ((OwnWork.loadNextCdSector _).andThen fun u => .atapiStartSend u _ _ _))

theorem OwnWork.streamRange (s : State) (lba : Word) (len ss : Nat) :
    Answers (streamRange lba len ss s) (OwnWork s) := by
  unfold Machine.streamRange
  split
  · exact .next (.atapiComplete s)
  · dsimp only
    split
    · exact .next ((OwnWork.deviceCall s .getCapacity).trans (.raiseError _ _))
    · exact (OwnWork.deviceCall s .getCapacity).then (.startStream _ _ _ _)

theorem OwnWork.tocOf (s : State) (msf : Bool) (format : BitVec 4) (track : Byte) :
    OwnWork s (tocOf msf format track s).1 := by
  unfold Machine.tocOf
  dsimp only
  split
  · exact .deviceCall s _
  · exact .refl s
  · exact .refl s

theorem OwnWork.readTocBody (s : State) (msf : Bool) (format : BitVec 4) (track : Byte) (alloc : Half) :
    Answers (readTocBody msf format track alloc s) (OwnWork s) :=
  .checkReady s fun u => .next ((OwnWork.tocOf u msf format track).trans (.sendIfDefined _ _ _))

theorem OwnWork.readDvdStructureBody (s : State) (address : Word) (layer format : Byte) (alloc : Half) :
    Answers (readDvdStructureBody address layer format alloc s) (OwnWork s) :=
  .checkReady s fun u => .next (.sendIfDefined u _ _)

theorem OwnWork.readBlocksBody (s : State) (lba : Word) (len : Nat) :
    Answers (readBlocksBody lba len s) (OwnWork s) :=
  .checkReady s fun u => .streamRange u _ _ _

theorem OwnWork.invalidField (s : State) : OwnWork s (invalidField s) := .raiseError s _

theorem OwnWork.stubbedPath (s : State) : OwnWork s (stubbedPath s) := by
  unfold Machine.stubbedPath
  split
  · exact .raiseError s _
  · exact .invalidField s

theorem OwnWork.readCdBody (s : State) (lba : Word) (len : BitVec 24) (sub : Byte) (subch : BitVec 3) :
    Answers (readCdBody lba len sub subch s) (OwnWork s) :=
  .checkReady s fun u => by
    split
    · exact .next (.stubbedPath u)
    · exact .next (.atapiComplete u)
    · exact .streamRange u _ _ _
    · exact .next (.invalidField u)

theorem OwnWork.dispatchPacket (s : State) (p0 p1 p2 p3 p4 p5 p6 p7 p8 p9 p10 : Byte) :
    Answers (dispatchPacket p0 p1 p2 p3 p4 p5 p6 p7 p8 p9 p10 s) (OwnWork s) := by
  unfold Machine.dispatchPacket
  split
  · exact .next (.sendFixed s _ _)
  · exact .next (.sendFixed s _ _)
  · exact .next (.sendIfDefined s _ _)
  · exact .next (.sendIfDefined s _ _)
  · exact .readTocBody s _ _ _ _
  · exact .readDvdStructureBody s _ _ _ _
  · exact .readBlocksBody s _ _
  · exact .readBlocksBody s _ _
  · exact .readCdBody s _ _ _ _
  · exact .next (.invalidField s)

theorem OwnWork.deliverPacket (s : State) (bytes : List Byte) {body : State → Result}
    (h : ∀ u, Answers (body u) (OwnWork u)) : Answers (deliverPacket bytes body s) (OwnWork s) := fun t e => by
  obtain ⟨-, rfl | ⟨-, -, hb⟩⟩ := deliverPacket_eq_next e
  · exact .refl _
  · exact ((OwnWork.putBuffer s 0 bytes).trans (.withDrive _ _)).trans (h _ t hb)

/-! ## The data register -/

theorem OwnWork.nextUnit (s : State) : OwnWork s (nextUnit s) := .withDrive s _

theorem OwnWork.endOneUnit (s : State) : OwnWork s (endOneUnit s) := .withDrive s _

theorem OwnWork.continueSector (s : State) : OwnWork s (continueSector s) :=
  (OwnWork.loadUnit s).andThen fun u => (OwnWork.withDrive u _).trans (.raiseInterrupt _)

theorem OwnWork.deferContinue (s : State) : OwnWork s (deferContinue s) :=
  have h := OwnWork.pushSlot s
    { op := .read, reg := .cmd, port := 0, data := Config.freeSlotData s.freeCount, size := 2 }
  ⟨h.cfg, h.inbox, h.selected, h.other, h.line, h.memory⟩

theorem OwnWork.endReadUnit (s : State) : OwnWork s (endReadUnit s) := by
  unfold Machine.endReadUnit
  have h := (OwnWork.withDrive s { s.sel with sectorPos := 0 }).trans (.nextUnit _)
  dsimp only
  split_ifs
  · exact h.trans (.withDrive _ _)
  · exact h.trans (.deferContinue _)
  · exact h.trans (.continueSector _)

theorem OwnWork.atapiBoundary (s : State) : OwnWork s (atapiBoundary s) := by
  unfold Machine.atapiBoundary
  split_ifs
  · exact (OwnWork.wrapCursor s).trans (.atapiComplete _)
  · exact (OwnWork.loadNextCdSector s).andThen .nextDataBlock
  · exact .nextDataBlock s

theorem OwnWork.afterDataRead (s : State) : OwnWork s (afterDataRead s) := by
  unfold Machine.afterDataRead
  split_ifs
  · exact ((OwnWork.withDrive s _).trans (.withCd _ _)).trans (.atapiBoundary _)
  · exact .endReadUnit s
  · exact .endOneUnit s
  · exact .refl s

theorem OwnWork.execIor16Data (s : State) : Answers (execIor16Data s) (OwnWork s) := by
  refine .hostAccess ?_
  split
  · exact .next (((OwnWork.returns s _).trans (.withDrive _ _)).trans (.afterDataRead _))
  · exact .next (.returnsFree s 2)

theorem OwnWork.endWriteUnit (s : State) : OwnWork s (endWriteUnit s) :=
  (OwnWork.withDrive s { s.sel with sectorPos := 0 }).trans <| (OwnWork.storeUnit _).andThen fun u => by
    dsimp only
    split
    · exact ((OwnWork.nextUnit u).trans (.withDrive _ _)).trans (.raiseInterrupt _)
    · exact (OwnWork.nextUnit u).trans (.raiseInterrupt _)

theorem OwnWork.afterDataWrite (s : State) : Answers (afterDataWrite s) (OwnWork s) := by
  unfold Machine.afterDataWrite
  split_ifs
  · exact (OwnWork.withDrive s _).then (.dispatchPacket _ _ _ _ _ _ _ _ _ _ _ _)
  · exact .next (.endWriteUnit s)
  · exact .next (.refl s)

theorem OwnWork.execIow16Data (s : State) (v : Half) : Answers (execIow16Data v s) (OwnWork s) := by
  refine .hostWrite (.refl s) fun _ => ?_
  split
  · exact ((OwnWork.putBuffer s _ _).trans (.withDrive _ _)).then (.afterDataWrite _)
  · exact .next (.refl s)

/-! ## The byte registers -/

theorem OwnWork.readByte (s : State) (v : Byte) : Answers (readByte v s) (OwnWork s) :=
  .hostAccess (.next (.returns s _))

/-- A task-file write that is performed sets one register of the selected drive. -/
theorem OwnWork.writeRegister (s : State) (x : Drive) : Answers (hostWrite s (.next (s.withDrive x))) (OwnWork s) :=
  .hostWrite (.refl s) fun _ => .next (.withDrive s x)

theorem OwnWork.accessError (s : State) (a : Access) : OwnWork s (accessError a s) := by
  unfold Machine.accessError
  split
  · exact .raiseError s .access
  · exact (OwnWork.raiseError s .access).trans (.returnsFree _ _)

theorem OwnWork.hostTransaction (s : State) (a : Access) {r : Result} (h : Answers r (OwnWork s)) :
    Answers (hostTransaction a s r) (OwnWork s) := by
  unfold Machine.hostTransaction
  split
  · exact .hostWrite (.refl s) fun _ => h
  · exact .hostAccess h

theorem OwnWork.writeBmCommand (s : State) (v : Byte) : Answers (writeBmCommand v s) (OwnWork s) := by
  unfold Machine.writeBmCommand
  dsimp only
  split_ifs
  · exact ((OwnWork.withBm s _).trans (.withBm _ _)).then fun _ => OwnWork.kick
  · exact .next ((OwnWork.withBm s _).trans (.withBm _ _))
  · exact .next (.withBm s _)

theorem OwnWork.writeBmStatus (s : State) (v : Byte) : OwnWork s (writeBmStatus v s) := by
  unfold Machine.writeBmStatus
  dsimp only
  split
  · exact (OwnWork.withBm s _).trans (.cancelInterrupt _)
  · exact .withBm s _

theorem OwnWork.bmWriteByte (s : State) (o : Nat) (v : Byte) : Answers (bmWriteByte o v s) (OwnWork s) := by
  unfold Machine.bmWriteByte
  dsimp only
  split
  · exact .next (.refl s)
  · split
    · exact .writeBmCommand s v
    · exact .next (.refl s)
    · exact .next (.writeBmStatus s v)
    · exact .next (.withBm s _)
    · exact .next (.withBm s _)
    · exact .next (.withBm s _)
    · exact .next (.withBm s _)
    · exact .next (.withBm s _)
    · exact .next (.refl s)

theorem OwnWork.bmWriteBytes (bs : List Byte) (o : Nat) (s : State) :
    Answers (bmWriteBytes o bs s) (OwnWork s) := by
  induction bs generalizing o s with
  | nil => exact .next (.refl s)
  | cons b bs ih => exact .andThen (OwnWork.bmWriteByte s o b) fun m hm => hm.then (ih (o + 1) m)

theorem OwnWork.bmAccess (s : State) (o : Nat) (a : Access) : Answers (bmAccess o a s) (OwnWork s) := by
  unfold Machine.bmAccess
  split
  · exact .bmWriteBytes _ o s
  · exact .next (.returns s _)

theorem OwnWork.execBmOtherChannel (s : State) (offset : Byte) (a : Access) :
    Answers (execBmOtherChannel offset a s) (OwnWork s) := by
  refine .hostAccess ?_
  split
  · exact .next (.refl s)
  · exact .next (.returns s 0)

theorem OwnWork.execCfgAlias (s : State) (offset : Byte) (a : Access) :
    Answers (execCfgAlias offset a s) (OwnWork s) := by
  refine .hostAccess ?_
  split
  · exact .bmAccess s _ a
  · refine .next ?_
    split
    · exact .emit s _
    · exact (OwnWork.emit s _).trans (.returnsFree _ _)

theorem OwnWork.execPrdEntry (s : State) (address : Word) (count : Half) (ignored : BitVec 15) (eot : Bool) :
    Answers (execPrdEntry address count ignored eot s) (OwnWork s) := by
  refine .hostAccess ?_
  split
  · refine .next ?_
    split
    · exact .withWalk s _
    · exact .refl s
  · exact .next (.refl s)
  · exact .next (.refl s)

theorem OwnWork.execIow8Output (s : State) (v : Byte) (h : resetRequested v = false) :
    Answers (execIow8Output v s) (OwnWork s) :=
  .hostWrite (.refl s) fun _ => .next (by rw [h]; exact .withDrive s _)

/-! ## The instructions -/

/-- Every instruction but the selection and the software reset works on the selected drive only. -/
theorem OwnWork.exec (i : Instr) (s : State) (h : reachesBothDrives i = false) : Answers (exec i s) (OwnWork s) := by
  cases i with
  | ior16Data => exact .execIor16Data s
  | iow16Data v => exact .execIow16Data s v
  | ior8Error | ior8SectorCount | ior8SectorNumber | ior8CylLsb | ior8CylMsb | ior8DriveHead | ior8Status2
  | ior8BmCommand | ior8BmReserved | ior8BmStatus | ior8BmUdma | ior8BmPrdptr0 | ior8BmPrdptr1 | ior8BmPrdptr2
  | ior8BmPrdptr3 => exact .readByte s _
  | iow8Feature v | iow8SectorCount v | iow8SectorNumber v | iow8CylLsb v | iow8CylMsb v => exact .writeRegister s _
  | iow8DriveHead v => cases h
  | ior8Status => exact .hostAccess (.next ((OwnWork.returns s _).trans (.cancelInterrupt _)))
  | iow8Command v => exact .runCommandByte s v
  | iow8Output v => exact .execIow8Output s v h
  | ctlInvalid offset a => exact .hostTransaction s a (.next (.accessError s a))
  | widthError w offset a => exact .hostTransaction s a (.next (.accessError s a))
  | droppedWrite w offset a => exact .hostAccess (.next (.refl s))
  | iow8BmCommand v => exact .hostAccess (.writeBmCommand s v)
  | iow8BmReserved v => exact .hostAccess (.next (.refl s))
  | iow8BmStatus v => exact .hostAccess (.next (.writeBmStatus s v))
  | iow8BmUdma v | iow8BmPrdptr0 v | iow8BmPrdptr1 v | iow8BmPrdptr2 v | iow8BmPrdptr3 v =>
    exact .hostAccess (.next (.withBm s _))
  | bmOtherChannel offset a => exact .execBmOtherChannel s offset a
  | bmMultibyte offset a => exact .hostAccess (.bmAccess s _ a)
  | cfgAlias offset a => exact .execCfgAlias s offset a
  | readSector => exact .dispatchBody s _ _ _ .readSectorBody
  | writeSector => exact .dispatchBody s _ _ _ .writeSectorBody
  | packet => exact .dispatchBody s _ _ _ .packetBody
  | identifyPacket | identify => exact .dispatchBody s _ _ _ .identifyBody
  | readDma | writeDma => exact .dispatchCommand s _ _ _ .dmaBody
  | standbyImmediate | sleep => exact .dispatchBody s _ _ _ .completeCommand
  | flushCache => exact .dispatchBody s _ _ _ .flushCacheBody
  | setFeatures => exact .dispatchBody s _ _ _ .setFeaturesBody
  | ataUnknown opcode => exact .dispatchBody s _ _ _ fun u => .raiseError u .abort
  | requestSense alloc | inquiry alloc => exact .deliverPacket s _ fun u => .next (.sendFixed u _ _)
  | modeSense6 pc page alloc | modeSense10 pc page alloc =>
    exact .deliverPacket s _ fun u => .next (.sendIfDefined u _ _)
  | readToc msf format track alloc => exact .deliverPacket s _ fun u => .readTocBody u _ _ _ _
  | readDvdStructure address layer format alloc =>
    exact .deliverPacket s _ fun u => .readDvdStructureBody u _ _ _ _
  | read10 lba len | read12 lba len => exact .deliverPacket s _ fun u => .readBlocksBody u _ _
  | readCd lba len sub subch => exact .deliverPacket s _ fun u => .readCdBody u _ _ _ _
  | pktUnknown opcode => exact .deliverPacket s _ fun u => .next (.invalidField u)
  | prdEntry address count ignored eot => exact .execPrdEntry s address count ignored eot

/-! ## The worker -/

theorem OwnWork.startDeferredWalk (s : State) : Answers (startDeferredWalk s) (OwnWork s) := by
  unfold Machine.startDeferredWalk ifDirectionAgrees
  split
  · exact .next (.walkSetup s)
  · exact .refused _

theorem OwnWork.beginOperation (s : State) : Answers (beginOperation s) (OwnWork s) := by
  unfold Machine.beginOperation
  split
  · exact .andThen (OwnWork.execDeferred s _) fun m hm => .next (hm.trans (.finishOperation m))
  · exact .next ((OwnWork.continueSector s).trans (.finishOperation _))
  · exact .startDeferredWalk s
  · exact .startDeferredWalk s
  · exact .next (.refl s)

theorem OwnWork.workerStep (s : State) : Answers (workerStep s) (OwnWork s) := by
  refine .hostAccess ?_
  split
  · exact .next ((OwnWork.walkStep s _).trans (.finishOperation _))
  · exact .startDeferredWalk s
  · exact .beginOperation s

/-- Settles O12: every other instruction and every turn of the worker is work on the selected drive. -/
theorem onlySelectedDriveTouched : Obligations.OnlySelectedDriveTouched := by
  rintro s t d hd (⟨i, hi, e⟩ | e)
  · have h := OwnWork.exec i s hi t e
    exact ⟨h.selected, h.other d hd⟩
  · have h := OwnWork.workerStep s t e
    exact ⟨h.selected, h.other d hd⟩

/-! ## All instructions and all steps -/

/-- What even the selection, the software reset and the environment leave: the parameters, the queue, a line that
equals the pending bit, and a canonical memory. -/
structure ChannelFrame (s t : State) : Prop where
  cfg : t.cfg = s.cfg
  inbox : t.inbox = s.inbox
  line : s.irqLine = s.irqPending → t.irqLine = t.irqPending
  memory : Memory.wf s.mem = true → Memory.wf t.mem = true

theorem OwnWork.channelFrame {s t : State} (h : OwnWork s t) : ChannelFrame s t := ⟨h.cfg, h.inbox, h.line, h.memory⟩

theorem ChannelFrame.trans {s t u : State} (h : ChannelFrame s t) (k : ChannelFrame t u) : ChannelFrame s u :=
  ⟨k.cfg.trans h.cfg, k.inbox.trans h.inbox, k.line ∘ h.line, k.memory ∘ h.memory⟩

/-- The selection followed by work on the newly selected drive (40_register_access.md R146). -/
theorem ChannelFrame.execIow8DriveHead (s : State) (v : Byte) :
    Answers (execIow8DriveHead v s) (ChannelFrame s) := by
  refine .hostWrite (OwnWork.refl s).channelFrame fun _ => .next ?_
  have hselect : ChannelFrame s { s with selectedDrive := driveSelected v } := ⟨rfl, rfl, id, id⟩
  refine hselect.trans (OwnWork.channelFrame ?_)
  split
  · exact (OwnWork.withDrive _ _).trans (.withDrive _ _)
  · exact (OwnWork.withDrive _ _).trans (.raiseError _ .absent)

theorem ChannelFrame.softwareReset (s : State) : ChannelFrame s (softwareReset s) := ⟨rfl, rfl, fun _ => rfl, id⟩

theorem ChannelFrame.execIow8Output (s : State) (v : Byte) : Answers (execIow8Output v s) (ChannelFrame s) := by
  refine .hostWrite (OwnWork.refl s).channelFrame fun _ => .next ?_
  have h := (OwnWork.withDrive s { s.sel with outputControl := v }).channelFrame
  split
  · exact h.trans (.softwareReset _)
  · exact h

theorem ChannelFrame.exec (i : Instr) (s : State) : Answers (exec i s) (ChannelFrame s) := by
  rcases Bool.eq_false_or_eq_true (reachesBothDrives i) with h | h
  · cases i with
    | iow8DriveHead v => exact .execIow8DriveHead s v
    | iow8Output v => exact .execIow8Output s v
    | _ => cases h
  · exact (OwnWork.exec i s h).mono fun _ => OwnWork.channelFrame

theorem State.pop_of_empty (s : State) (h : s.inbox = []) : s.pop = s := by
  cases s
  cases h
  rfl

/-- How a step of a live block goes on: a request is run, the worker has its turn, or the environment stores a byte or
changes a device; then the first item of the queue, if there is one, is taken. -/
theorem step_eq_next {s t : State} (h : step s = .next t) :
    ∃ m, t = m.pop ∧
      ((∃ i, exec i s = .next m) ∨ workerStep s = .next m ∨ (∃ addr v, m = storeFromOutside addr v s) ∨
        ∃ d x, m = changeDevice d x s) := by
  unfold step at h
  split at h
  · cases h
  · split at h
    · next hempty =>
      have hpop : t.pop = t := t.pop_of_empty ((OwnWork.workerStep s t h).inbox.trans hempty)
      exact ⟨t, hpop.symm, .inr (.inl h)⟩
    · split at h
      · next i _ =>
        obtain ⟨m, hm, rfl⟩ := popped_eq_next.mp h
        exact ⟨m, rfl, .inl ⟨i, hm⟩⟩
      · cases h
    · obtain ⟨m, hm, rfl⟩ := popped_eq_next.mp h
      exact ⟨m, rfl, .inr (.inl hm)⟩
    · cases h
      exact ⟨_, rfl, .inr (.inr (.inl ⟨_, _, rfl⟩))⟩
    · cases h
      exact ⟨_, rfl, .inr (.inr (.inr ⟨_, _, rfl⟩))⟩

/-- A step is work in the channel's frame, and then the first item of the queue is taken. -/
theorem ChannelFrame.step {s t : State} (h : step s = .next t) : ∃ m, ChannelFrame s m ∧ t = m.pop := by
  obtain ⟨m, rfl, ⟨i, e⟩ | e | ⟨addr, v, rfl⟩ | ⟨d, x, rfl⟩⟩ := step_eq_next h
  · exact ⟨m, .exec i s m e, rfl⟩
  · exact ⟨m, (OwnWork.workerStep s m e).channelFrame, rfl⟩
  · exact ⟨storeFromOutside addr v s, ⟨rfl, rfl, id, Memory.write_wf _ _ _ addr.isLt⟩, rfl⟩
  · exact ⟨changeDevice d x s, ⟨rfl, rfl, id, id⟩, rfl⟩

/-- Settles O5: the parameters and the queue are part of the channel's frame. -/
theorem parametersNeverChange : Obligations.ParametersNeverChange := by
  refine ⟨fun i s t e => ?_, fun s t e => ?_⟩
  · have h := ChannelFrame.exec i s t e
    exact ⟨h.cfg, h.inbox⟩
  · obtain ⟨m, h, rfl⟩ := ChannelFrame.step e
    exact ⟨h.cfg, congrArg List.tail h.inbox⟩

/-- Settles O11: so is a line that equals the pending bit. -/
theorem interruptLineFollowsPending : Obligations.InterruptLineFollowsPending := by
  intro s t hline e
  obtain ⟨m, h, rfl⟩ := ChannelFrame.step e
  exact h.line hline

end Sys2Proof.Machine
end

section
/-!
The channel's invariant taken apart: what it says of one drive slot as a predicate on that slot's registers
(`RegistersOk`), and what work on the selected drive has to re-establish for the invariant to hold again.
-/

namespace Sys2Proof.Machine

/-! ## One drive slot -/

/-- What `DriveOk` says of slot `d`, with `occupied` for "a deferred access on this drive is in the mailbox". -/
structure RegistersOk (c : ChannelConfig) (d : DriveId) (occupied : Prop) (x : Drive) (cd : CdRom) : Prop where
  cursor : CursorOk c.maxBlock x
  legal : StatusLegal x.status
  request : isDataRequest x.status = true ↔ (x.state ≠ .idle ∧ isBusy x.status = false)
  busy : isBusy x.status = true ↔ occupied
  head : driveSelected x.head = d
  absentIdle : (c.drives.get d).installed = false → x.state = .idle
  present : (c.drives.get d).installed = true → x.status ≠ statusAbsent
  sector : cd.sectorSize = 2048 ∨ cd.sectorSize = 2352

theorem driveOk_iff {s : State} {d : DriveId} :
    DriveOk s d ↔
      RegistersOk s.cfg d (d = s.selectedDrive ∧ SlotOccupied s) (s.drives.get d) (s.cds.get d) :=
  ⟨fun ⟨hc, hl, hr, hb, hh, ha, hp, hs⟩ => ⟨hc, hl, hr, hb, hh, ha, hp, hs⟩,
    fun ⟨hc, hl, hr, hb, hh, ha, hp, hs⟩ => ⟨hc, hl, hr, hb, hh, ha, hp, hs⟩⟩

/-- The same registers, of which the occupation is said in another way. -/
theorem RegistersOk.congr {c : ChannelConfig} {d : DriveId} {p q : Prop} {x : Drive} {cd : CdRom}
    (h : RegistersOk c d p x cd) (e : p ↔ q) : RegistersOk c d q x cd :=
  { h with busy := h.busy.trans e }

/-- A status that is not busy and not that of an absent drive shows by DRQ whether a data phase is open. -/
theorem StatusLegal.shown {v : Byte} (h : StatusLegal v) (hb : isBusy v = false) (ha : v ≠ statusAbsent) :
    (isDataRequest v = false ∧ (v = statusReady ∨ v = statusError)) ∨
      (isDataRequest v = true ∧ (v = statusData ∨ v = 0x49)) := by
  rcases h with rfl | rfl | rfl | rfl | rfl | rfl | rfl
  · exact .inl ⟨by decide, .inl rfl⟩
  · exact .inr ⟨by decide, .inl rfl⟩
  · exact .inl ⟨by decide, .inr rfl⟩
  · exact absurd rfl ha
  · cases hb
  · exact .inr ⟨by decide, .inr rfl⟩
  · cases hb

/-- Status and protocol state of an installed drive with no deferred operation: ready or failed in IDLE, DRQ in a
data phase (30_encoding.md R100). -/
def PhaseShown (x : Drive) : Prop :=
  (x.state = .idle ∧ (x.status = statusReady ∨ x.status = statusError)) ∨
    (x.state ≠ .idle ∧ (x.status = statusData ∨ x.status = 0x49))

theorem RegistersOk.phaseShown {c : ChannelConfig} {d : DriveId} {p : Prop} {x : Drive} {cd : CdRom}
    (h : RegistersOk c d p x cd) (hp : ¬p) (hi : (c.drives.get d).installed = true) : PhaseShown x := by
  have hb : isBusy x.status = false := by simpa using mt h.busy.mp hp
  rcases h.legal.shown hb (h.present hi) with ⟨hq, hv⟩ | ⟨hq, hv⟩
  · refine .inl ⟨?_, hv⟩
    by_contra hs
    exact Bool.false_ne_true (hq.symm.trans (h.request.mpr ⟨hs, hb⟩))
  · exact .inr ⟨(h.request.mp hq).1, hv⟩

/-- A drive that shows its phase is well-formed where no deferred operation is on it. -/
theorem RegistersOk.of_phaseShown {c : ChannelConfig} {d : DriveId} {p : Prop} {x : Drive} {cd : CdRom}
    (hx : PhaseShown x) (hp : ¬p) (hi : (c.drives.get d).installed = true) (cursor : CursorOk c.maxBlock x)
    (head : driveSelected x.head = d) (sector : cd.sectorSize = 2048 ∨ cd.sectorSize = 2352) :
    RegistersOk c d p x cd := by
  have shown : StatusLegal x.status ∧ isBusy x.status = false ∧ x.status ≠ statusAbsent ∧
      (isDataRequest x.status = true ↔ x.state ≠ .idle) := by
    rcases hx with ⟨hs, hv | hv⟩ | ⟨hs, hv | hv⟩ <;> rw [hv] <;> simp only [hs, ne_eq] <;> decide
  obtain ⟨hl, hb, ha, hq⟩ := shown
  exact ⟨cursor, hl, by simp [hq, hb], by simp [hb, hp], head, fun h => by simp [hi] at h, fun _ => ha, sector⟩

/-- So is a drive that shows BSY while a deferred operation is on it, whatever its protocol state. -/
theorem RegistersOk.of_busy {c : ChannelConfig} {d : DriveId} {p : Prop} {x : Drive} {cd : CdRom} (hp : p)
    (hb : isBusy x.status = true) (hl : StatusLegal x.status) (hi : (c.drives.get d).installed = true)
    (cursor : CursorOk c.maxBlock x) (head : driveSelected x.head = d)
    (sector : cd.sectorSize = 2048 ∨ cd.sectorSize = 2352) : RegistersOk c d p x cd := by
  have hq : isDataRequest x.status = false ∧ x.status ≠ statusAbsent := by
    rcases hl with h | h | h | h | h | h | h <;> rw [h] at hb ⊢ <;> revert hb <;> decide
  exact ⟨cursor, hl, by simp [hq.1, hb], by simp [hb, hp], head, fun h => by simp [hi] at h, fun _ => hq.2, sector⟩

/-! ## The parts of the invariant -/

theorem channelInv_iff {s : State} :
    ChannelInv s ↔ s.cfg.wf = true ∧
      (∀ d, RegistersOk s.cfg d (d = s.selectedDrive ∧ SlotOccupied s) (s.drives.get d) (s.cds.get d)) ∧
      s.irqLine = s.irqPending ∧ MailboxOk s ∧ BusMasterOk s := by
  constructor
  · rintro ⟨hc, hm, hs, hl, hb, hr⟩
    refine ⟨hc, fun d => ?_, hl, hb, hr⟩
    cases d
    · exact driveOk_iff.mp hm
    · exact driveOk_iff.mp hs
  · rintro ⟨hc, hd, hl, hb, hr⟩
    exact ⟨hc, driveOk_iff.mpr (hd .master), driveOk_iff.mpr (hd .slave), hl, hb, hr⟩

theorem ChannelInv.registers {s : State} (h : ChannelInv s) (d : DriveId) :
    RegistersOk s.cfg d (d = s.selectedDrive ∧ SlotOccupied s) (s.drives.get d) (s.cds.get d) := by
  obtain ⟨-, hd, -⟩ := channelInv_iff.mp h
  exact hd d

/-- The registers of the selected drive. -/
theorem ChannelInv.selected {s : State} (h : ChannelInv s) :
    RegistersOk s.cfg s.selectedDrive (SlotOccupied s) s.sel s.selCd :=
  (h.registers s.selectedDrive).congr (by simp)

/-- What the invariant says of the selected drive and the channel, but for the drive's status and protocol state and
the mailbox with its walk. -/
structure FormOk (s : State) : Prop where
  config : s.cfg.wf = true
  cursor : CursorOk s.cfg.maxBlock s.sel
  head : driveSelected s.sel.head = s.selectedDrive
  sector : s.selCd.sectorSize = 2048 ∨ s.selCd.sectorSize = 2352
  busMaster : BusMasterOk s

theorem ChannelInv.form {s : State} (h : ChannelInv s) : FormOk s := by
  obtain ⟨hc, -, -, -, hb⟩ := channelInv_iff.mp h
  exact ⟨hc, h.selected.cursor, h.selected.head, h.selected.sector, hb⟩

theorem ChannelInv.mailbox {s : State} (h : ChannelInv s) : MailboxOk s := by
  obtain ⟨-, -, -, hm, -⟩ := channelInv_iff.mp h
  exact hm

theorem ChannelInv.line {s : State} (h : ChannelInv s) : s.irqLine = s.irqPending := by
  obtain ⟨-, -, hl, -, -⟩ := channelInv_iff.mp h
  exact hl

/-- Without deferral nothing is in the mailbox. -/
theorem ChannelInv.op_idle {s : State} (h : ChannelInv s) (hd : s.cfg.defer = false) : s.slot.op = .idle := by
  obtain ⟨hdefer, -⟩ := h.mailbox
  exact (hdefer hd).1

/-- With no deferred access in the mailbox no walk is left. -/
theorem ChannelInv.walk_idle {s : State} (h : ChannelInv s) (free : ¬SlotOccupied s) : s.walk = .idle := by
  obtain ⟨-, hw, -⟩ := h.mailbox
  by_contra hne
  exact free (.inr (hw hne))

/-- A drive in a data phase is installed. -/
theorem ChannelInv.installed_of_phase {s : State} (h : ChannelInv s) (hs : s.sel.state ≠ .idle) :
    s.selCfg.installed = true := by
  by_contra hi
  exact hs (h.selected.absentIdle (Bool.not_eq_true _ ▸ hi))

/-- A drive that does not show BSY has no deferred access in the mailbox. -/
theorem ChannelInv.free_of_not_busy {s : State} (h : ChannelInv s) (hb : isBusy s.sel.status = false) :
    ¬SlotOccupied s := fun ho => Bool.false_ne_true (hb.symm.trans (h.selected.busy.mpr ho))

/-! ## Re-establishing the invariant -/

/-- A mailbox with no deferred access in it and no walk. -/
theorem mailboxOk_of_free {s : State} (free : ¬SlotOccupied s) (hw : s.walk = .idle)
    (hd : s.cfg.defer = false → s.slot.op = .idle) : MailboxOk s :=
  ⟨fun h => ⟨hd h, hw⟩, fun h => absurd hw h, fun h => absurd h free, fun h => absurd (.inl h) free,
    fun h => absurd (.inr h) free⟩

/-- After work on the selected drive the invariant is the mailbox's, the bus master's and that drive's. -/
theorem ChannelInv.of_own {s t : State} (h : ChannelInv s) (o : OwnWork s t) (hm : MailboxOk t)
    (hb : BusMasterOk t) (hr : RegistersOk t.cfg t.selectedDrive (SlotOccupied t) t.sel t.selCd) :
    ChannelInv t := by
  refine channelInv_iff.mpr ⟨by rw [o.cfg]; exact h.form.config, fun d => ?_, o.line h.line, hm, hb⟩
  by_cases hd : d = t.selectedDrive
  · subst hd
    exact hr.congr (by simp)
  · have hs : d ≠ s.selectedDrive := o.selected ▸ hd
    obtain ⟨hx, hcd, -, -⟩ := o.other d hs
    rw [o.cfg, hx, hcd]
    exact (h.registers d).congr (by simp [hd, hs])

theorem OwnWork.selCfg {s t : State} (o : OwnWork s t) : t.selCfg = s.selCfg := by
  simp only [State.selCfg, o.cfg, o.selected]

end Sys2Proof.Machine
end

section
/-!
Reset: the table of 10_state.md R46, and the invariants right after it (R45).
-/

namespace Sys2Proof.Machine

/-! ## The reset values of one slot -/

theorem State.resetWith_drive (c : ChannelConfig) (devices : Pair Device) (d : DriveId) :
    (State.resetWith c devices).drives.get d = Drive.reset (c.drives.get d) d := by
  cases d <;> rfl

theorem State.resetWith_cd (c : ChannelConfig) (devices : Pair Device) (d : DriveId) :
    (State.resetWith c devices).cds.get d = CdRom.reset := by
  cases d <;> rfl

theorem State.resetWith_lock (c : ChannelConfig) (devices : Pair Device) (d : DriveId) :
    (State.resetWith c devices).locks.get d = false := by
  cases d <;> rfl

/-- The signature of the protocol (10_state.md R46). -/
theorem Drive.reset_cylinder (p : DriveConfig) (d : DriveId) :
    (Drive.reset p d).cylinder = if p.protocol = .atapi then 0xEB14#16 else 0x0000#16 := by
  cases h : p.protocol <;> simp [Drive.reset, h]

theorem Drive.reset_head (p : DriveConfig) (d : DriveId) :
    (Drive.reset p d).head = if d = .master then 0x00#8 else 0x10#8 := by
  cases d <;> rfl

/-- Settles O7: the reset values of each slot are those of `Drive.reset` and `CdRom.reset`. -/
theorem resetGivesTheTable : Obligations.ResetGivesTheTable := by
  intro c devices
  refine ⟨rfl, rfl, rfl, rfl, fun d => ?_, rfl, rfl, rfl, rfl, rfl, rfl, rfl, rfl, rfl⟩
  dsimp only
  rw [State.resetWith_drive, State.resetWith_cd, State.resetWith_lock, Drive.reset_cylinder, Drive.reset_head]
  exact ⟨rfl, rfl, rfl, rfl, rfl, rfl, rfl, rfl, rfl, rfl, rfl, rfl, rfl, rfl, rfl, rfl, rfl, rfl, rfl, rfl, rfl,
    rfl, rfl, rfl, rfl⟩

/-! ## The invariants after reset -/

/-- What an admitted configuration gives: room for the largest unit, the mask of the blocked bits, and two
well-formed drives. -/
theorem ChannelConfig.wf_iff {c : ChannelConfig} :
    c.wf = true ↔ 2352 ≤ c.maxBlock ∧ c.iblkMask &&& 0x67#8 = 0 ∧ ∀ d, (c.drives.get d).wf c.maxBlock = true := by
  simp only [ChannelConfig.wf, Bool.and_eq_true, decide_eq_true_eq, beq_iff_eq, and_assoc]
  refine and_congr_right fun _ => and_congr_right fun _ => ⟨fun h d => ?_, fun h => ⟨h .master, h .slave⟩⟩
  cases d
  · exact h.1
  · exact h.2

/-- A slot with the reset values meets the invariant; the software reset keeps `outputControl` and leaves the buffer
free, and neither is named in it. -/
theorem RegistersOk.reset {c : ChannelConfig} (hc : c.wf = true) (d : DriveId) {p : Prop} (hp : ¬p) (output : Byte)
    (buffer : List Byte) :
    RegistersOk c d p { Drive.reset (c.drives.get d) d with outputControl := output, buffer := buffer }
      CdRom.reset := by
  have hroom : 2352 ≤ c.maxBlock := (ChannelConfig.wf_iff.mp hc).1
  have hcursor : CursorOk c.maxBlock (Drive.reset (c.drives.get d) d) := by
    show 0 % 2 = 0 ∧ 512 % 2 = 0 ∧ 0 < 512 ∧ 512 ≤ c.maxBlock
    omega
  have hhead : driveSelected (Drive.reset (c.drives.get d) d).head = d := by
    rw [Drive.reset_head]
    cases d <;> decide
  cases hi : (c.drives.get d).installed with
  | true =>
    have hshown : PhaseShown (Drive.reset (c.drives.get d) d) :=
      .inl ⟨rfl, .inl (by simp [Drive.reset, hi, statusReady])⟩
    exact .of_phaseShown hshown hp hi hcursor hhead (.inl rfl)
  | false =>
    have hs : (Drive.reset (c.drives.get d) d).status = statusAbsent := by simp [Drive.reset, hi, statusAbsent]
    refine ⟨hcursor, .inr (.inr (.inr (.inl hs))), ?_, ?_, hhead, fun _ => rfl, fun h => ?_, .inl rfl⟩
    · simp only [hs]
      exact iff_of_false (by decide) fun h => h.1 rfl
    · simp only [hs]
      exact iff_of_false (by decide) hp
    · cases hi.symm.trans h

theorem resetWith_channelInv {c : ChannelConfig} (devices : Pair Device) (hc : c.wf = true) :
    ChannelInv (State.resetWith c devices) := by
  have free : ¬SlotOccupied (State.resetWith c devices) := by rintro (h | h) <;> cases h
  refine channelInv_iff.mpr ⟨hc, fun d => ?_, rfl, mailboxOk_of_free free rfl fun _ => rfl, BitVec.zero_and, ?_⟩
  · rw [State.resetWith_drive, State.resetWith_cd]
    exact .reset hc d (fun h => free h.2) _ _
  · exact BitVec.zero_and

/-- Settles O8: each slot has its reset values, the mailbox is free and the bus-master registers are 0; `State.reset`
is the case of Configuration K. -/
theorem resetMeetsTheInvariants : Obligations.ResetMeetsTheInvariants :=
  have hstandard : Config.standard.wf = true := by decide +kernel
  ⟨fun _ devices hc => ⟨resetWith_channelInv devices hc, rfl⟩, resetWith_channelInv standardDevices hstandard, rfl⟩

end Sys2Proof.Machine
end

section
/-!
The form of the selected drive through an operation (10_state.md R45 a, c, g and 30_encoding.md R108, R110): every
shared procedure keeps it with the mailbox and the walk as they are (`Intact`), and the bodies of the commands end
with the drive's phase shown in its status as well (`Settled`).
-/

namespace Sys2Proof.Machine

/-! ## What the form rests on -/

/-- The components of the state that the invariant reads, but for the other drive and the interrupt. -/
def State.view (s : State) : ChannelConfig × DriveId × Drive × CdRom × BusMaster × Mailbox × Walk :=
  (s.cfg, s.selectedDrive, s.sel, s.selCd, s.bm, s.slot, s.walk)

section View
variable (s : State)

@[simp] theorem view_deviceCall (c : DeviceCall) : (deviceCall c s).view = s.view := rfl
@[simp] theorem view_deviceAcquire : (deviceAcquire s).view = s.view := rfl
@[simp] theorem view_deviceRelease : (deviceRelease s).view = s.view := rfl
@[simp] theorem view_deviceSeek (lba : Nat) : (deviceSeek lba s).view = s.view := rfl
@[simp] theorem view_deviceSetMode (n : Nat) : (deviceSetMode n s).view = s.view := rfl
@[simp] theorem view_deviceFlush : (deviceFlush s).view = s.view := rfl
@[simp] theorem view_dmaRead (addr : Word) (n : Nat) : (dmaRead addr n s).1.view = s.view := rfl
@[simp] theorem view_dmaWrite (addr : Word) (bs : List Byte) : (dmaWrite addr bs s).view = s.view := rfl
@[simp] theorem view_raiseInterrupt : (raiseInterrupt s).view = s.view := by simp [State.view]
@[simp] theorem view_deviceReadBlock (n : Nat) : (deviceReadBlock n s).1.view = s.view := by simp [State.view]
@[simp] theorem view_deviceWriteBlock (bs : List Byte) : (deviceWriteBlock bs s).1.view = s.view := by
  simp [State.view]
@[simp] theorem view_readBlockAt (lba n : Nat) : (readBlockAt lba n s).1.view = s.view := by simp [readBlockAt]
@[simp] theorem view_writeBlockAt (lba : Nat) (bs : List Byte) : (writeBlockAt lba bs s).1.view = s.view := by
  simp [writeBlockAt]

end View

/-- States that look alike have the same selected registers. -/
theorem sel_eq_of_view {s t : State} (e : t.view = s.view) : t.sel = s.sel := by
  simp only [State.view, Prod.mk.injEq] at e
  obtain ⟨-, -, hx, -⟩ := e
  exact hx

/-! ## Intact and settled states -/

/-- The selected drive and the bus master have their form, and mailbox and walk are the given ones. -/
structure Intact (m : Mailbox) (w : Walk) (s : State) : Prop where
  slot : s.slot = m
  walk : s.walk = w
  form : FormOk s

/-- An intact state whose selected drive shows its phase. -/
structure Settled (m : Mailbox) (w : Walk) (s : State) : Prop extends Intact m w s where
  shown : PhaseShown s.sel

variable {m : Mailbox} {w : Walk} {s t : State}

theorem Intact.of_view (h : Intact m w s) (e : t.view = s.view) : Intact m w t := by
  simp only [State.view, Prod.mk.injEq] at e
  obtain ⟨hc, hd, hx, hcd, hb, hm, hw⟩ := e
  obtain ⟨slot, walk, config, cursor, head, sector, busMaster⟩ := h
  refine ⟨hm.trans slot, hw.trans walk, hc ▸ config, ?_, ?_, hcd ▸ sector, ?_⟩
  · rw [hc, hx]; exact cursor
  · rw [hd, hx]; exact head
  · simpa only [BusMasterOk, hc, hb] using busMaster

theorem Settled.of_view (h : Settled m w s) (e : t.view = s.view) : Settled m w t :=
  ⟨h.toIntact.of_view e, sel_eq_of_view e ▸ h.shown⟩

/-- New registers of the selected drive keep the form if their cursor is well placed and the drive bit stays. -/
theorem Intact.withDrive (h : Intact m w s) {x : Drive} (cursor : CursorOk s.cfg.maxBlock x)
    (head : driveSelected x.head = s.selectedDrive) : Intact m w (s.withDrive x) where
  slot := h.slot
  walk := h.walk
  form := ⟨h.form.config, by simpa using cursor, by simpa using head, h.form.sector, h.form.busMaster⟩

theorem Intact.withCd (h : Intact m w s) {x : CdRom} (sector : x.sectorSize = 2048 ∨ x.sectorSize = 2352) :
    Intact m w (s.withCd x) where
  slot := h.slot
  walk := h.walk
  form := ⟨h.form.config, h.form.cursor, h.form.head, by simpa using sector, h.form.busMaster⟩

theorem Intact.withBm (h : Intact m w s) {b : BusMaster} (hb : BusMasterOk (s.withBm b)) :
    Intact m w (s.withBm b) :=
  ⟨h.slot, h.walk, h.form.config, h.form.cursor, h.form.head, h.form.sector, hb⟩

theorem Intact.withWalk (h : Intact m w s) (v : Walk) : Intact m v (s.withWalk v) :=
  ⟨h.slot, rfl, h.form.config, h.form.cursor, h.form.head, h.form.sector, h.form.busMaster⟩

theorem Intact.withSlot (h : Intact m w s) (n : Mailbox) : Intact n w (s.withSlot n) :=
  ⟨rfl, h.walk, h.form.config, h.form.cursor, h.form.head, h.form.sector, h.form.busMaster⟩

theorem Intact.putBuffer (h : Intact m w s) (p : Nat) (bs : List Byte) : Intact m w (s.putBuffer p bs) :=
  h.withDrive h.form.cursor h.form.head

theorem Settled.raiseInterrupt (h : Settled m w s) : Settled m w (raiseInterrupt s) := h.of_view (by simp)

/-- The device is moved to a block under its lock. -/
theorem Settled.positionDevice (lba : Nat) (h : Settled m w s) :
    Settled m w (deviceRelease (deviceSeek lba (deviceAcquire s))) := h.of_view (by simp)

/-- New registers that show their phase. -/
theorem Intact.settle (h : Intact m w s) {x : Drive} (cursor : CursorOk s.cfg.maxBlock x)
    (head : driveSelected x.head = s.selectedDrive) (shown : PhaseShown x) : Settled m w (s.withDrive x) :=
  ⟨h.withDrive cursor head, by simpa using shown⟩

theorem Settled.withCd (h : Settled m w s) {x : CdRom} (sector : x.sectorSize = 2048 ∨ x.sectorSize = 2352) :
    Settled m w (s.withCd x) := ⟨h.toIntact.withCd sector, h.shown⟩

theorem Settled.putBuffer (h : Settled m w s) (p : Nat) (bs : List Byte) : Settled m w (s.putBuffer p bs) :=
  h.settle h.form.cursor h.form.head h.shown

/-! ## Cursors -/

theorem FormOk.room (h : FormOk s) : 2352 ≤ s.cfg.maxBlock := (ChannelConfig.wf_iff.mp h.config).1

/-- At the start of a unit of even, positive length that fits the buffer. -/
theorem CursorOk.start {maxBlock u : Nat} {x : Drive} (hp : x.sectorPos = 0) (hu : x.unitSize = u) (he : u % 2 = 0)
    (h0 : 0 < u) (hr : u ≤ maxBlock) : CursorOk maxBlock x := by
  simp only [CursorOk, hp, hu]
  exact ⟨trivial, he, h0, hr⟩

/-- Back at the start of the same unit. -/
theorem CursorOk.rewind {maxBlock : Nat} {x y : Drive} (h : CursorOk maxBlock x) (hp : y.sectorPos = 0)
    (hu : y.unitSize = x.unitSize) : CursorOk maxBlock y := by
  obtain ⟨-, he, hlt, hr⟩ := h
  exact .start hp hu he (by omega) hr

/-- At the start of a disk's unit of 512 bytes. -/
theorem FormOk.cursor_512 (h : FormOk s) {x : Drive} (hp : x.sectorPos = 0) (hu : x.unitSize = 512) :
    CursorOk s.cfg.maxBlock x := by
  have := h.room
  exact .start hp hu rfl (by decide) (by omega)

/-- At the start of a packet of 12 bytes. -/
theorem FormOk.cursor_packet (h : FormOk s) {x : Drive} (hp : x.sectorPos = 0) (hu : x.unitSize = 12) :
    CursorOk s.cfg.maxBlock x := by
  have := h.room
  exact .start hp hu rfl (by decide) (by omega)

/-- At the start of an optical drive's sector. -/
theorem FormOk.cursor_sector (h : FormOk s) {x : Drive} (hp : x.sectorPos = 0)
    (hu : x.unitSize = 2048 ∨ x.unitSize = 2352) : CursorOk s.cfg.maxBlock x := by
  have := h.room
  exact .start hp rfl (by omega) (by omega) (by omega)

/-! ## The error classes -/

theorem Intact.abort (h : Intact m w s) : Settled m w (raiseError .abort s) :=
  .raiseInterrupt (h.settle (h.form.cursor.rewind rfl rfl) h.form.head (.inl ⟨rfl, .inr rfl⟩))

theorem Intact.atapiError (h : Intact m w s) (key : BitVec 4) (asc : Byte) :
    Settled m w (raiseError (.atapi key asc) s) := by
  refine Settled.raiseInterrupt (Intact.settle ?_ ?_ ?_ ?_)
  · exact h.withCd h.form.sector
  · exact h.form.cursor.rewind rfl rfl
  · exact h.form.head
  · exact .inl ⟨rfl, .inr rfl⟩

theorem Settled.fatal (h : Settled m w s) (r : FatalReason) : Settled m w (raiseError (.fatal r) s) :=
  h.of_view rfl

/-! ## Units and sectors -/

/-- An attempt that was not aborted is intact, with status and protocol state as before; an aborted one is settled. -/
def AttemptOk (m : Mailbox) (w : Walk) (s : State) : Attempt → Prop
  | .done t => Intact m w t ∧ t.sel.status = s.sel.status ∧ t.sel.state = s.sel.state
  | .aborted t => Settled m w t

/-- Going on after an attempt whose success the continuation settles. -/
theorem AttemptOk.andThen {a : Attempt} {k : State → State} (h : AttemptOk m w s a)
    (hk : ∀ t, Intact m w t → t.sel.status = s.sel.status → t.sel.state = s.sel.state → Settled m w (k t)) :
    Settled m w (a.andThen k) := by
  cases a with
  | done t =>
    obtain ⟨hi, hst, hse⟩ := h
    exact hk t hi hst hse
  | aborted t => exact h

/-- The same where the drive showed its phase before. -/
theorem AttemptOk.andThen_settled {a : Attempt} {k : State → State} (h : AttemptOk m w s a) (hs : PhaseShown s.sel)
    (hk : ∀ t, Settled m w t → Settled m w (k t)) : Settled m w (a.andThen k) :=
  h.andThen fun t ht hst hse => hk t ⟨ht, by simpa only [PhaseShown, hst, hse] using hs⟩

theorem Intact.loadUnit (h : Intact m w s) : AttemptOk m w s (loadUnit s) := by
  unfold Machine.loadUnit
  split
  · have hview := view_readBlockAt s (makeLogical s.selCfg s.sel) 512
    split
    · next t bs heq =>
      rw [heq] at hview
      have ht : Intact m w (t.putBuffer 0 bs) := (h.of_view hview).putBuffer 0 bs
      refine ⟨ht.withDrive (ht.form.cursor_512 rfl rfl) ht.form.head, ?_, ?_⟩ <;>
        simp [sel_eq_of_view hview]
    · next t heq =>
      rw [heq] at hview
      exact (h.of_view hview).abort
  · exact h.abort

theorem Intact.storeUnit (h : Intact m w s) : AttemptOk m w s (storeUnit s) := by
  unfold Machine.storeUnit
  split
  · have hview := view_writeBlockAt s (makeLogical s.selCfg s.sel) (bufferSlice s.sel.buffer 0 512)
    split
    · next t heq =>
      rw [heq] at hview
      exact ⟨h.of_view hview, by rw [sel_eq_of_view hview], by rw [sel_eq_of_view hview]⟩
    · next t heq =>
      rw [heq] at hview
      exact (h.of_view hview).abort
  · exact h.abort

theorem Intact.loadNextCdSector (h : Intact m w s) : AttemptOk m w s (loadNextCdSector s) := by
  unfold Machine.loadNextCdSector
  have hview := view_readBlockAt s s.selCd.nextLba.toNat s.selCd.sectorSize
  split
  · next t heq =>
    rw [heq] at hview
    exact (h.of_view hview).abort
  · next t bs heq =>
    rw [heq] at hview
    have ht : Intact m w (t.putBuffer 0 bs) := (h.of_view hview).putBuffer 0 bs
    have hx := ht.withDrive (x := { (t.putBuffer 0 bs).sel with
      sectorPos := 0, unitSize := (t.putBuffer 0 bs).selCd.sectorSize })
      (ht.form.cursor_sector rfl ht.form.sector) ht.form.head
    refine ⟨hx.withCd hx.form.sector, ?_, ?_⟩ <;> simp [sel_eq_of_view hview]

/-! ## The ATA commands -/

theorem Intact.completeCommand (h : Intact m w s) : Settled m w (completeCommand s) :=
  .raiseInterrupt (h.settle h.form.cursor h.form.head (.inl ⟨rfl, .inl rfl⟩))

theorem Intact.identifyBody (h : Intact m w s) : Settled m w (identifyBody s) :=
  have hb := h.putBuffer 0 (identifyBytes s.selCfg)
  .raiseInterrupt (hb.settle (hb.form.cursor_512 rfl rfl) hb.form.head (.inr ⟨DriveState.noConfusion, .inl rfl⟩))

theorem Intact.readSectorBody (h : Intact m w s) : Settled m w (readSectorBody s) :=
  h.loadUnit.andThen fun _ ht _ _ =>
    .raiseInterrupt (ht.settle ht.form.cursor ht.form.head (.inr ⟨DriveState.noConfusion, .inl rfl⟩))

theorem Intact.writeSectorBody (h : Intact m w s) : Settled m w (writeSectorBody s) := by
  unfold Machine.writeSectorBody
  split
  · exact h.settle (h.form.cursor_512 rfl rfl) h.form.head (.inr ⟨DriveState.noConfusion, .inl rfl⟩)
  · exact h.abort

theorem Intact.armDma (h : Intact m w s) : Settled m w (armDma s) :=
  .positionDevice _ (h.settle (h.form.cursor_512 rfl rfl) h.form.head (.inr ⟨DriveState.noConfusion, .inl rfl⟩))

theorem Intact.packetBody (h : Intact m w s) : Settled m w (packetBody s) := by
  refine Intact.settle ?_ ?_ ?_ ?_
  · exact h.withCd h.form.sector
  · exact h.form.cursor_packet rfl rfl
  · exact h.form.head
  · exact .inr ⟨DriveState.noConfusion, .inl rfl⟩

theorem Intact.setFeaturesBody (h : Intact m w s) : Settled m w (setFeaturesBody s) := by
  unfold Machine.setFeaturesBody
  split
  · exact h.completeCommand
  · exact h.abort

theorem Intact.flushCacheBody (h : Intact m w s) : Settled m w (flushCacheBody s) :=
  (h.of_view (by simp) : Intact m w (deviceRelease (deviceFlush (deviceAcquire s)))).completeCommand

/-! ## The packet procedures -/

theorem Intact.atapiComplete (h : Intact m w s) : Settled m w (atapiComplete s) :=
  .raiseInterrupt (h.settle h.form.cursor h.form.head (.inl ⟨rfl, .inl rfl⟩))

theorem Intact.armSend (h : Intact m w s) {unit : Nat} (he : unit % 2 = 0) (h0 : 0 < unit)
    (hr : unit ≤ s.cfg.maxBlock) : Settled m w (armSend unit s) :=
  .raiseInterrupt (h.settle (.start rfl rfl he h0 hr) h.form.head (.inr ⟨DriveState.noConfusion, .inl rfl⟩))

/-- The count of the data a packet command owes the host. -/
theorem Intact.declare (h : Intact m w s) (n : Nat) :
    Intact m w (s.withCd { s.selCd with declared := n, remainingBytes := n }) := h.withCd h.form.sector

theorem Settled.withByteCount (h : Settled m w s) (n : Nat) : Settled m w (withByteCount n s) :=
  h.settle h.form.cursor h.form.head h.shown

theorem Settled.atapiStartSend (h : Settled m w s) (reqlen alloclen : Nat) {unit : Nat} (he : unit % 2 = 0)
    (h0 : 0 < unit) (hr : unit ≤ s.cfg.maxBlock) : Settled m w (atapiStartSend reqlen alloclen unit s) := by
  unfold Machine.atapiStartSend
  generalize adjustedByteCount s.sel.cylinder.toNat alloclen = bc
  have h1 := h.withByteCount bc
  have h2 := h1.withByteCount (min bc (min reqlen alloclen))
  dsimp only
  split
  · exact h1.fatal _
  · split
    · exact (h2.declare (min reqlen alloclen)).atapiComplete
    · exact (h2.declare (min reqlen alloclen)).armSend he h0 hr

/-- A payload that fits the buffer with one byte to spare is sent as one unit of even length
(42_atapi_packet.md R219). -/
theorem Settled.sendFixed (h : Settled m w s) (payload : List Byte) (alloclen : Nat) (h0 : 1 ≤ payload.length)
    (hr : payload.length + 1 ≤ s.cfg.maxBlock) : Settled m w (sendFixed payload alloclen s) :=
  (h.putBuffer 0 _).atapiStartSend _ _ (by omega) (by omega)
    (Nat.le_trans (Nat.add_le_add_left (by omega) _) hr)

theorem Intact.invalidField (h : Intact m w s) : Settled m w (invalidField s) := h.atapiError _ _

theorem Settled.sendIfDefined (h : Settled m w s) {payload : Option (List Byte)} (alloclen : Nat)
    (hp : ∀ bs, payload = some bs → 1 ≤ bs.length ∧ bs.length + 1 ≤ s.cfg.maxBlock) :
    Settled m w (sendIfDefined payload alloclen s) := by
  cases payload with
  | none => exact h.invalidField
  | some bs =>
    obtain ⟨h0, hr⟩ := hp bs rfl
    exact h.sendFixed bs alloclen h0 hr

theorem Settled.recordCursor (h : Settled m w s) (lba : Word) (len : Nat) {ss : Nat}
    (hss : ss = 2048 ∨ ss = 2352) : Settled m w (recordCursor lba len ss s) :=
  have h1 : Settled m w (s.withCd { s.selCd with sectorSize := ss }) := h.withCd hss
  have h2 : Settled m w (deviceSetMode ss (s.withCd { s.selCd with sectorSize := ss })) := h1.of_view (by simp)
  h2.withCd h2.form.sector

theorem Intact.armStreamDma (h : Intact m w s) (lba : Word) (len : Nat) {ss : Nat} (hss : ss = 2048 ∨ ss = 2352) :
    Settled m w (armStreamDma lba len ss s) :=
  have h1 := h.declare (len * ss)
  .positionDevice _ (h1.settle (h1.form.cursor_sector rfl hss) h1.form.head (.inr ⟨DriveState.noConfusion, .inl rfl⟩))

/-! ## The ends of a unit -/

theorem Intact.endOneUnit (h : Intact m w s) : Settled m w (endOneUnit s) :=
  h.settle (h.form.cursor.rewind rfl rfl) h.form.head (.inl ⟨rfl, .inl rfl⟩)

/-- The load of the next sector opens the data phase again (41_ata_commands.md R174; 40_register_access.md R133). -/
theorem Intact.continueSector (h : Intact m w s) (hs : s.sel.state ≠ .idle) : Settled m w (continueSector s) :=
  h.loadUnit.andThen fun _ ht _ hstate =>
    .raiseInterrupt (ht.settle ht.form.cursor ht.form.head (.inr ⟨fun e => hs (hstate.symm.trans e), .inl rfl⟩))

/-- The advance of the task file touches the address registers only, and keeps the drive bit. -/
theorem incAddress_frame (c : DriveConfig) (x : Drive) :
    (incAddress c x).status = x.status ∧ (incAddress c x).state = x.state ∧
      (incAddress c x).sectorPos = x.sectorPos ∧ (incAddress c x).unitSize = x.unitSize ∧
      driveSelected (incAddress c x).head = driveSelected x.head := by
  have hbit (n : BitVec 4) : driveSelected (withHeadNumber x.head n) = driveSelected x.head := by
    simp only [driveSelected, withHeadNumber, BitVec.getLsbD_append, BitVec.getLsbD_extractLsb']
    rfl
  unfold incAddress
  split
  · exact ⟨rfl, rfl, rfl, rfl, hbit _⟩
  · split
    · split
      · exact ⟨rfl, rfl, rfl, rfl, hbit _⟩
      · exact ⟨rfl, rfl, rfl, rfl, hbit _⟩
    · exact ⟨rfl, rfl, rfl, rfl, rfl⟩

theorem Settled.nextUnit (h : Settled m w s) : Settled m w (nextUnit s) := by
  obtain ⟨hst, hse, hp, hu, hh⟩ := incAddress_frame s.selCfg s.sel
  refine h.settle ?_ (hh.trans h.form.head) ?_
  · simpa only [CursorOk, hp, hu] using h.form.cursor
  · simpa only [PhaseShown, hst, hse] using h.shown

theorem nextUnit_state (s : State) : (nextUnit s).sel.state = s.sel.state := by
  obtain ⟨-, hse, -⟩ := incAddress_frame s.selCfg s.sel
  simpa [nextUnit] using hse

theorem Settled.nextDataBlock (h : Settled m w s) : Settled m w (nextDataBlock s) := by
  unfold Machine.nextDataBlock
  split
  · have h1 : Settled m w (s.withDrive { s.sel with drqPos := 0 }) := h.settle h.form.cursor h.form.head h.shown
    exact (h1.withByteCount _).raiseInterrupt
  · exact h

end Sys2Proof.Machine
end

section
/-!
A walk keeps the form turn by turn and ends (43_busmaster_dma.md R248 to R252, R255 e): each turn exits, with the
drive idle and ready, or leaves fewer turns to do.
-/

namespace Sys2Proof.Machine

variable {m : Mailbox} {v : Walk} {w : Walker} {s : State}

/-! ## The bits the bus-master registers store (30_encoding.md R108, R110) -/

theorem masked_or {a b k : Byte} (ha : a &&& k = 0) (hb : b &&& k = 0) : (a ||| b) &&& k = 0 := by
  rw [BitVec.and_or_distrib_right, ha, hb]
  rfl

theorem masked_and {a k : Byte} (ha : a &&& k = 0) (b : Byte) : a &&& b &&& k = 0 := by
  rw [BitVec.and_assoc, BitVec.and_comm b, ← BitVec.and_assoc, ha]
  exact BitVec.zero_and

/-- A new BM_STATUS value keeps the bits that are not stored at 0. -/
theorem BusMasterOk.withStatus (h : BusMasterOk s) {b : Byte} (hb : b &&& (0x9C#8 &&& ~~~s.cfg.iblkMask) = 0) :
    BusMasterOk (s.withBm { s.bm with status := b }) := ⟨h.1, hb⟩

/-- A value with bits 7 and 4:2 clear holds none of the bits that BM_STATUS does not store. -/
theorem masked_of_clear {b : Byte} (hb : b &&& 0x9C#8 = 0) (mask : Byte) : b &&& (0x9C#8 &&& ~~~mask) = 0 := by
  rw [← BitVec.and_assoc, hb]
  exact BitVec.zero_and

theorem BusMasterOk.withDmaError (h : BusMasterOk s) :
    BusMasterOk (s.withBm { s.bm with status := Machine.withDmaError s.bm.status }) :=
  h.withStatus (masked_or h.2 (masked_of_clear (by decide) _))

theorem BusMasterOk.withActive (h : BusMasterOk s) :
    BusMasterOk (s.withBm { s.bm with status := Machine.withActive s.bm.status }) :=
  h.withStatus (masked_or h.2 (masked_of_clear (by decide) _))

theorem BusMasterOk.withoutActive (h : BusMasterOk s) :
    BusMasterOk (s.withBm { s.bm with status := Machine.withoutActive s.bm.status }) :=
  h.withStatus (masked_and h.2 _)

/-- The value written stores only bits 6:5 and the blocked bits (43_busmaster_dma.md R244). -/
theorem BusMasterOk.writtenStatus (h : BusMasterOk s) (v : Byte) :
    BusMasterOk (s.withBm { s.bm with status := Machine.writtenStatus s.cfg.iblkMask s.bm.status v }) := by
  have hcleared : (if v.getLsbD 1 then withoutDmaError s.bm.status else s.bm.status) &&&
      (0x9C#8 &&& ~~~s.cfg.iblkMask) = 0 := by
    split
    · exact masked_and h.2 _
    · exact h.2
  have hmask : s.cfg.iblkMask &&& (0x9C#8 &&& ~~~s.cfg.iblkMask) = 0 := by
    rw [BitVec.and_comm, BitVec.and_assoc, BitVec.and_comm (~~~_), BitVec.and_not_self]
    exact BitVec.and_zero
  have hplain : (0x60#8 ||| s.cfg.iblkMask) &&& (0x9C#8 &&& ~~~s.cfg.iblkMask) = 0 :=
    masked_or (masked_of_clear (by decide) _) hmask
  refine h.withStatus (masked_or (masked_and hcleared _) ?_)
  rw [BitVec.and_comm v]
  exact masked_and hplain v

/-- BM_COMMAND stores START and RW (43_busmaster_dma.md R242). -/
theorem BusMasterOk.storedCommand (h : BusMasterOk s) (v : Byte) :
    BusMasterOk (s.withBm { s.bm with command := Machine.storedCommand v }) := by
  refine ⟨?_, h.2⟩
  show v &&& 0x09#8 &&& 0xF6#8 = 0
  rw [BitVec.and_assoc]
  exact BitVec.and_zero

/-! ## The turns a walk has left -/

/-- A bound of the turns a walk has left: one for each byte still to move, one for the descriptor of each, one where a
descriptor is awaited, and the exit. -/
def Walker.turnsLeft (w : Walker) : Nat :=
  if w.failed then 1 else 2 * (w.units * w.unit - w.pos) + (if w.cnt = 0 then 1 else 0) + 1

theorem Walker.turnsLeft_pos (w : Walker) : 0 < w.turnsLeft := by
  unfold Walker.turnsLeft
  split <;> omega

/-- What is left of the units after `n` bytes, a unit's end included. -/
theorem advanceWalker_left (w : Walker) (n : Nat) :
    (advanceWalker w n).units * (advanceWalker w n).unit - (advanceWalker w n).pos =
      w.units * w.unit - w.pos - n := by
  unfold advanceWalker
  by_cases he : w.pos + n = w.unit
  · simp only [he, if_true, Nat.sub_mul, Nat.one_mul, Nat.sub_zero]
    omega
  · simp only [he, if_false]
    omega

/-- A chunk leaves the position inside the unit and fewer turns to do. -/
theorem advanceWalker_turnsLeft {n : Nat} (hf : w.failed = false) (hu : w.units ≠ 0) (hc : w.cnt ≠ 0)
    (hn : 0 < n) (hle : w.pos + n ≤ w.unit) :
    (advanceWalker w n).pos < (advanceWalker w n).unit ∧ (advanceWalker w n).turnsLeft < w.turnsLeft := by
  have hleft := advanceWalker_left w n
  have hunit : w.unit ≤ w.units * w.unit := Nat.le_mul_of_pos_left _ (Nat.pos_of_ne_zero hu)
  refine ⟨?_, ?_⟩
  · unfold advanceWalker
    dsimp only
    split <;> omega
  · have hf' : (advanceWalker w n).failed = false := hf
    simp only [Walker.turnsLeft, hf, hf', hc, hleft, Bool.false_eq_true, if_false]
    split <;> omega

theorem spanLength_ne_zero (count : Half) : spanLength count ≠ 0 := by
  unfold spanLength
  split
  · decide
  · next h => exact fun e => h (BitVec.eq_of_toNat_eq e)

/-! ## One turn -/

/-- The walk goes on: the form is kept, status and protocol state stand, and a walk inside its unit stays inside it
with fewer turns left. -/
def GoesOn (m : Mailbox) (w : Walker) (s t : State) : Prop :=
  ∃ w', Intact m (.running w') t ∧ t.sel.status = s.sel.status ∧ t.sel.state = s.sel.state ∧
    (w.pos < w.unit → w'.pos < w'.unit ∧ w'.turnsLeft < w.turnsLeft)

theorem Intact.fetchDescriptor (h : Intact m v s) (hw : awaitsDescriptor w = true) :
    GoesOn m w s (fetchDescriptor w s) := by
  simp only [awaitsDescriptor, Bool.and_eq_true, Bool.not_eq_true', bne_iff_ne, beq_iff_eq] at hw
  obtain ⟨⟨⟨hf, -⟩, hc⟩, -⟩ := hw
  refine ⟨_, (h.of_view (view_dmaRead s w.p 8)).withWalk _, rfl, rfl, fun hpos => ⟨hpos, ?_⟩⟩
  simp [Walker.turnsLeft, hf, hc, spanLength_ne_zero]

section Chunk

/-! The walker has bytes of a unit and of a descriptor to move: the case of a chunk. -/

variable {n : Nat} (hf : w.failed = false) (hu : w.units ≠ 0) (hc : w.cnt ≠ 0) (hn : n = min w.cnt (w.unit - w.pos))
include hf hu hc hn

/-- A chunk that moved its bytes, or whose device call answered SHORT. -/
theorem Intact.goesOn_of_chunk {t : State} {w' : Walker} (h : Intact m v t) (hst : t.sel.status = s.sel.status)
    (hse : t.sel.state = s.sel.state) (hw' : w' = advanceWalker w n ∨ w' = { w with failed := true }) :
    GoesOn m w s (t.withWalk (.running w')) := by
  refine ⟨w', h.withWalk _, hst, hse, fun hpos => ?_⟩
  rcases hw' with rfl | rfl
  · exact advanceWalker_turnsLeft hf hu hc (by omega) (by omega)
  · have hunit : w.unit ≤ w.units * w.unit := Nat.le_mul_of_pos_left _ (Nat.pos_of_ne_zero hu)
    refine ⟨hpos, ?_⟩
    simp only [Walker.turnsLeft, hf, hc, Bool.false_eq_true, if_true, if_false]
    omega

theorem Intact.sendChunk {t : State} (h : Intact m v t) (hst : t.sel.status = s.sel.status)
    (hse : t.sel.state = s.sel.state) : GoesOn m w s (sendChunk w n t) := by
  have hsel := sel_eq_of_view (view_dmaWrite t w.addr (bufferSlice t.sel.buffer w.pos n))
  exact (h.of_view (view_dmaWrite _ _ _)).goesOn_of_chunk hf hu hc hn (hsel ▸ hst) (hsel ▸ hse) (.inl rfl)

theorem Intact.chunkToMemory (h : Intact m v s) : GoesOn m w s (chunkToMemory w n s) := by
  unfold Machine.chunkToMemory
  split
  · have hview := view_deviceReadBlock s w.unit
    split
    · next t bs heq =>
      rw [heq] at hview
      refine ((h.of_view hview).putBuffer 0 bs).sendChunk hf hu hc hn ?_ ?_ <;> simp [sel_eq_of_view hview]
    · next t heq =>
      rw [heq] at hview
      have hsel := sel_eq_of_view hview
      exact (h.of_view hview).goesOn_of_chunk hf hu hc hn (hsel ▸ rfl) (hsel ▸ rfl) (.inr rfl)
  · exact h.sendChunk hf hu hc hn rfl rfl

theorem Intact.chunkFromMemory (h : Intact m v s) : GoesOn m w s (chunkFromMemory w n s) := by
  have hread : Intact m v ((dmaRead w.addr n s).1.putBuffer w.pos (dmaRead w.addr n s).2) :=
    (h.of_view (view_dmaRead s w.addr n)).putBuffer _ _
  have hsel : ((dmaRead w.addr n s).1.putBuffer w.pos (dmaRead w.addr n s).2).sel.status = s.sel.status ∧
      ((dmaRead w.addr n s).1.putBuffer w.pos (dmaRead w.addr n s).2).sel.state = s.sel.state := by
    simp [sel_eq_of_view (view_dmaRead s w.addr n)]
  unfold Machine.chunkFromMemory
  dsimp only
  generalize (dmaRead w.addr n s).1.putBuffer w.pos (dmaRead w.addr n s).2 = u at *
  obtain ⟨hst, hse⟩ := hsel
  split
  · have hview := view_deviceWriteBlock u (bufferSlice u.sel.buffer 0 w.unit)
    split
    all_goals
      next t heq =>
      rw [heq] at hview
      have hx := sel_eq_of_view hview
      exact (hread.of_view hview).goesOn_of_chunk hf hu hc hn (hx ▸ hst) (hx ▸ hse) (by simp)
  · exact hread.goesOn_of_chunk hf hu hc hn hst hse (.inl rfl)

end Chunk

theorem Intact.moveChunk (h : Intact m v s) (hf : w.failed = false) (hu : w.units ≠ 0) (hc : w.cnt ≠ 0) :
    GoesOn m w s (moveChunk w s) := by
  unfold Machine.moveChunk
  split
  · exact h.chunkToMemory hf hu hc rfl
  · exact h.chunkFromMemory hf hu hc rfl

/-! ## The exits -/

theorem Settled.withWalk (h : Settled m v s) (u : Walk) : Settled m u (s.withWalk u) :=
  ⟨h.toIntact.withWalk u, h.shown⟩

theorem Intact.keepCursor (h : Intact m v s) : Intact m v (keepCursor w s) := by
  unfold Machine.keepCursor
  split
  · exact h.withCd h.form.sector
  · exact h.withDrive h.form.cursor h.form.head

theorem Intact.finishCursor (h : Intact m v s) : Intact m v (finishCursor w s) := by
  unfold Machine.finishCursor
  split
  · refine Intact.withDrive ?_ ?_ ?_
    · exact h.withCd h.form.sector
    · exact h.form.cursor
    · exact h.form.head
  · exact h.withDrive h.form.cursor h.form.head

/-- The drive is idle and ready, with an error value, and the walk is gone. -/
theorem Intact.exit (h : Intact m v s) {x : Drive} (e : Byte)
    (hx : x = { s.sel with error := e, status := statusReady, state := .idle }) :
    Settled m .idle ((s.withDrive x).withWalk .idle) := by
  subst hx
  exact Settled.withWalk (h.settle (x := { s.sel with error := e, status := statusReady, state := .idle })
    h.form.cursor h.form.head (.inl ⟨rfl, .inl rfl⟩)) _

theorem Intact.dmaError (h : Intact m v s) : Settled m .idle (raiseError (.dma w) s) := by
  have h1 : Intact m v (deviceRelease s) := h.of_view (by simp)
  have h2 := (h1.withBm h1.form.busMaster.withDmaError).keepCursor (w := w)
  exact h2.exit _ rfl

theorem Intact.dmaDone (h : Intact m v s) : Settled m .idle (dmaDone w s) := by
  have h1 : Intact m v (deviceRelease s) := h.of_view (by simp)
  unfold Machine.dmaDone
  dsimp only
  split
  · exact ((h1.withBm h1.form.busMaster.withoutActive).finishCursor.exit errorNone rfl).raiseInterrupt
  · exact (h1.finishCursor.exit errorNone rfl).raiseInterrupt

/-! ## Whole walks -/

/-- A turn of a walk exits with the drive idle and ready, or goes on. -/
theorem Intact.walkStep (h : Intact m v s) :
    Settled m .idle (walkStep w s) ∨ GoesOn m w s (walkStep w s) := by
  rcases walkStep_cases w s with ⟨-, e⟩ | ⟨-, -, e⟩ | ⟨hw, e⟩ | ⟨hf, hu, hc, e⟩ <;> rw [e]
  · exact .inl h.dmaError
  · exact .inl h.dmaDone
  · exact .inr (h.fetchDescriptor hw)
  · exact .inr (h.moveChunk hf hu hc)

theorem runWalk_of_idle (n : Nat) (h : s.walk = .idle) : runWalk n s = s := by
  cases n with
  | zero => rfl
  | succ n => rw [runWalk, h]

theorem runWalk_of_running (n : Nat) (h : s.walk = .running w) : runWalk (n + 1) s = runWalk n (walkStep w s) := by
  rw [runWalk, h]

/-- A walk inside its unit ends within its bound. -/
theorem Intact.runWalk (n : Nat) (h : Intact m (.running w) s) (hpos : w.pos < w.unit) (hn : w.turnsLeft ≤ n) :
    Settled m .idle (runWalk n s) := by
  induction n generalizing s w with
  | zero => exact absurd hn (Nat.not_le_of_lt w.turnsLeft_pos)
  | succ n ih =>
    rw [runWalk_of_running n h.walk]
    rcases h.walkStep (w := w) with hdone | ⟨w', hw', -, -, hless⟩
    · rw [runWalk_of_idle n hdone.walk]
      exact hdone
    · obtain ⟨hpos', hturns⟩ := hless hpos
      exact ih hw' hpos' (by omega)

theorem Intact.walkSetup (h : Intact m v s) : Intact m (.running (newWalker s)) (walkSetup s) :=
  Intact.withWalk (h.of_view (by simp)) _

theorem walkSetup_sel (s : State) : (walkSetup s).sel = s.sel := by simp [walkSetup]

/-- A walk inside one access ends, whatever the memory and the device answer. -/
theorem Intact.wholeWalk (h : Intact m v s) : Settled m .idle (wholeWalk s) := by
  have hunit : 0 < s.sel.unitSize := by
    obtain ⟨-, -, hlt, -⟩ := h.form.cursor
    omega
  refine h.walkSetup.runWalk _ hunit ?_
  have hf : (newWalker s).failed = false := rfl
  have hp : (newWalker s).pos = 0 := rfl
  have hc : (newWalker s).cnt = 0 := rfl
  simp only [Walker.turnsLeft, walkFuel, hf, hp, hc]
  simp

end Sys2Proof.Machine
end

section
/-!
The host's accesses keep the invariant (10_state.md R45): a command, a packet or an item of data works on an installed
drive with no deferred access in the mailbox (`HostTurn`), and settles that drive or hands one operation over.
-/

namespace Sys2Proof.Machine

variable {s t : State}

/-! ## Turns of the host -/

/-- The invariant holds, no deferred access is in the mailbox, and the selected drive is installed. -/
structure HostTurn (s : State) : Prop where
  inv : ChannelInv s
  free : ¬SlotOccupied s
  installed : s.selCfg.installed = true

theorem ChannelInv.intact (h : ChannelInv s) : Intact s.slot s.walk s := ⟨rfl, rfl, h.form⟩

theorem HostTurn.settled (h : HostTurn s) : Settled s.slot s.walk s :=
  ⟨h.inv.intact, h.inv.selected.phaseShown h.free h.installed⟩

/-- Work on the selected drive that settles it. -/
theorem HostTurn.settle (h : HostTurn s) (o : OwnWork s t) (k : Settled s.slot s.walk t) : HostTurn t := by
  have free : ¬SlotOccupied t := by rw [SlotOccupied, k.slot]; exact h.free
  have installed : t.selCfg.installed = true := by rw [o.selCfg]; exact h.installed
  have hm : MailboxOk t := mailboxOk_of_free free (k.walk.trans (h.inv.walk_idle h.free))
    (by rw [o.cfg, k.slot]; exact h.inv.op_idle)
  exact ⟨h.inv.of_own o hm k.form.busMaster
    (.of_phaseShown k.shown free installed k.form.cursor k.form.head k.form.sector), free, installed⟩

/-- A device call and its like change nothing the invariant reads. -/
theorem HostTurn.of_view (h : HostTurn s) (o : OwnWork s t) (e : t.view = s.view) : HostTurn t :=
  h.settle o (h.settled.of_view e)

/-- The accepted command byte. -/
theorem HostTurn.acceptCommand (h : HostTurn s) (v : Byte) : HostTurn (acceptCommand v s) :=
  h.settle (OwnWork.acceptCommand s v)
    (h.settled.settle (h.inv.form.cursor.rewind rfl rfl) h.inv.form.head h.settled.shown)

/-! ## Registers written in place -/

/-- New registers of the selected drive, in the same protocol state. -/
theorem ChannelInv.withDrive (h : ChannelInv s) {x : Drive} (hs : x.state = s.sel.state)
    (hr : RegistersOk s.cfg s.selectedDrive (SlotOccupied s) x s.selCd) : ChannelInv (s.withDrive x) := by
  obtain ⟨hdefer, hwalk, hinst, hread, hwrite⟩ := h.mailbox
  have mailbox : MailboxOk (s.withDrive x) := by
    refine ⟨hdefer, hwalk, hinst, fun hop => ?_, hwrite⟩
    obtain ⟨hreg, hport, hstate⟩ := hread hop
    exact ⟨hreg, hport, by rw [State.withDrive_sel, hs, hstate]⟩
  exact h.of_own (.withDrive s x) mailbox h.form.busMaster (by rw [State.withDrive_sel]; exact hr)

/-- A register that the invariant does not name. -/
theorem ChannelInv.setRegister (h : ChannelInv s) {x : Drive} (status : x.status = s.sel.status)
    (state : x.state = s.sel.state) (pos : x.sectorPos = s.sel.sectorPos) (unit : x.unitSize = s.sel.unitSize)
    (head : x.head = s.sel.head) : ChannelInv (s.withDrive x) := by
  refine h.withDrive state ?_
  obtain ⟨hc, hl, hr, hb, hh, ha, hp, hs⟩ := h.selected
  rw [← status] at hl hr hb hp
  rw [← state] at hr ha
  rw [← head] at hh
  exact ⟨by simpa only [CursorOk, pos, unit] using hc, hl, hr, hb, hh, ha, hp, hs⟩

/-- ERR added to a status (40_register_access.md R156). -/
theorem StatusLegal.withError {v : Byte} (h : StatusLegal v) :
    StatusLegal (withError v) ∧ isDataRequest (withError v) = isDataRequest v ∧
      isBusy (withError v) = isBusy v ∧ (withError v = statusAbsent → v = statusAbsent) := by
  rcases h with rfl | rfl | rfl | rfl | rfl | rfl | rfl <;> decide

/-- ERR taken from the status of an installed drive (40_register_access.md R146). -/
theorem StatusLegal.withoutError {v : Byte} (h : StatusLegal v) (hv : v ≠ statusAbsent) :
    StatusLegal (withoutError v) ∧ isDataRequest (withoutError v) = isDataRequest v ∧
      isBusy (withoutError v) = isBusy v ∧ withoutError v ≠ statusAbsent := by
  rcases h with rfl | rfl | rfl | rfl | rfl | rfl | rfl <;> revert hv <;> decide

/-- The error of an access sets ERR and the error register. -/
theorem ChannelInv.accessRefused (h : ChannelInv s) : ChannelInv (raiseError .access s) := by
  obtain ⟨hc, hl, hr, hb, hh, ha, hp, hs⟩ := h.selected
  obtain ⟨hl', hq', hb', ha'⟩ := hl.withError
  exact h.withDrive rfl ⟨hc, hl', hq' ▸ hb' ▸ hr, hb' ▸ hb, hh, ha, fun hi e => hp hi (ha' e), hs⟩

/-- The answer of a drive that is not installed, on which no operation is outstanding. -/
theorem RegistersOk.absent {c : ChannelConfig} {d : DriveId} {p : Prop} {x : Drive} {cd : CdRom}
    (h : RegistersOk c d p x cd) (hi : (c.drives.get d).installed = false) (hp : ¬p) :
    RegistersOk c d p { x with status := statusAbsent, error := errorAbort } cd where
  cursor := h.cursor
  legal := .inr (.inr (.inr (.inl rfl)))
  request := iff_of_false (show ¬isDataRequest statusAbsent = true by decide) fun e => e.1 (h.absentIdle hi)
  busy := iff_of_false (show ¬isBusy statusAbsent = true by decide) hp
  head := h.head
  absentIdle := h.absentIdle
  present := fun e => by cases hi.symm.trans e
  sector := h.sector

theorem ChannelInv.absent (h : ChannelInv s) (hi : s.selCfg.installed = false) (free : ¬SlotOccupied s) :
    ChannelInv (raiseError .absent s) := h.withDrive rfl (h.selected.absent hi free)

/-! ## Handing an operation over -/

/-- The descriptors a host access may leave in the mailbox (30_encoding.md R121): the load of the next sector in
PIO_READ, a deferrable command, or a walk. -/
def DescriptorOk (s : State) (m : Mailbox) : Prop :=
  (m.op = .read ∧ m.reg = .cmd ∧ m.port = 0 ∧ s.sel.state = .pioRead) ∨
    (m.op = .write ∧ (m.reg = .cmd → m.port = 7 →
      m.data.setWidth 8 = 0x20#8 ∨ m.data.setWidth 8 = 0x30#8 ∨ m.data.setWidth 8 = 0xC8#8 ∨
        m.data.setWidth 8 = 0xCA#8))

/-- A drive that deferral is configured for shows BSY, with the descriptor in the mailbox. -/
theorem HostTurn.handOver (h : HostTurn s) (hd : s.cfg.defer = true) {m : Mailbox} (hm : DescriptorOk s m) :
    ChannelInv (pushSlot m s) := by
  have hstate : (pushSlot m s).sel.state = s.sel.state := by simp [pushSlot]
  have hwalk : s.walk = .idle := h.inv.walk_idle h.free
  have hcursor : CursorOk s.cfg.maxBlock { s.sel with status := statusBusy } := h.inv.form.cursor
  have occupied : SlotOccupied (pushSlot m s) := by
    rcases hm with ⟨hop, -⟩ | ⟨hop, -⟩
    · exact .inl hop
    · exact .inr hop
  have mailbox : MailboxOk (pushSlot m s) := by
    refine ⟨fun e => absurd hd (by simp [show s.cfg.defer = false from e]), fun e => absurd hwalk e,
      fun _ => h.installed, ?_, ?_⟩
    · intro hop
      rcases hm with ⟨-, hreg, hport, hs⟩ | ⟨hop', -⟩
      · exact ⟨hreg, hport, hstate.trans hs⟩
      · cases hop.symm.trans hop'
    · intro hop hreg hport _
      rcases hm with ⟨hop', -⟩ | ⟨-, hdata⟩
      · cases hop.symm.trans hop'
      · exact hdata hreg hport
  have hsel : (pushSlot m s).sel = { s.sel with status := statusBusy } := by simp [pushSlot]
  refine h.inv.of_own (OwnWork.pushSlot s m) mailbox h.inv.form.busMaster ?_
  rw [hsel]
  exact .of_busy occupied (show isBusy statusBusy = true by decide) (.inr (.inr (.inr (.inr (.inl rfl)))))
    h.installed hcursor h.inv.form.head h.inv.form.sector

/-! ## The kick -/

/-- A kick that changes the state found the drive in DMA_ACTIVE, and ran the walk, left it to the worker's next steps,
or put a descriptor of a walk into the free mailbox (43_busmaster_dma.md R247). -/
theorem kick_changes {site : KickSite} (h : kick site s = .next t) :
    t = s ∨ (s.sel.state = .dmaActive ∧
      ((s.cfg.defer = false ∧ t = wholeWalk s) ∨
        (s.cfg.defer = true ∧ site = .command ∧
          t = (s.withDrive { s.sel with status := statusBusy }).withWalk .pending) ∨
        (s.cfg.defer = true ∧ s.slot.op = .idle ∧
          ∃ m, DescriptorOk s m ∧ t = pushSlot m s))) := by
  have agreed {u : State} (e : ifDirectionAgrees s u = .next t) : t = u := by
    unfold ifDirectionAgrees at e
    split at e
    · cases e
      rfl
    · cases e
  unfold kick at h
  split at h
  · cases h
    exact .inl rfl
  next hk =>
  have hs : s.sel.state = .dmaActive := by
    simp only [kickCondition, Bool.not_eq_true', Bool.not_eq_false, Bool.and_eq_true, beq_iff_eq] at hk
    exact hk.1
  split at h
  · next hd => exact .inr ⟨hs, .inl ⟨by simpa using hd, agreed h⟩⟩
  next hd =>
  have hd : s.cfg.defer = true := by simpa using hd
  have posted {m : Mailbox} (hm : DescriptorOk s m)
      (e : (if slotBusy s then .next s else ifDirectionAgrees s (pushSlot m s)) = Host.Outcome.next t) :
      t = s ∨ s.slot.op = .idle ∧ ∃ m, DescriptorOk s m ∧ t = pushSlot m s := by
    split at e
    · cases e
      exact .inl rfl
    · next hb => exact .inr ⟨by simpa [slotBusy] using hb, m, hm, agreed e⟩
  cases site with
  | command => exact .inr ⟨hs, .inr (.inl ⟨hd, rfl, agreed h⟩)⟩
  | startWrite v => exact (posted (.inr ⟨rfl, by simp⟩) h).imp_right fun hm => ⟨hs, .inr (.inr ⟨hd, hm⟩)⟩
  | packetWord => exact (posted (.inr ⟨rfl, by simp⟩) h).imp_right fun hm => ⟨hs, .inr (.inr ⟨hd, hm⟩)⟩

/-- The kick keeps the invariant at each of its sites; with deferral configured, that of a command is the worker's. -/
theorem ChannelInv.kick (h : ChannelInv s) {site : KickSite} (hsite : site = .command → s.cfg.defer = false) :
    Answers (kick site s) ChannelInv := by
  intro t e
  rcases kick_changes e with rfl | ⟨hs, hcase⟩
  · exact h
  have installed := h.installed_of_phase (by rw [hs]; decide)
  rcases hcase with ⟨hd, rfl⟩ | ⟨hd, hcmd, -⟩ | ⟨hd, hop, m, hm, rfl⟩
  · have free : ¬SlotOccupied s := by simp [SlotOccupied, h.op_idle hd]
    have turn : HostTurn s := ⟨h, free, installed⟩
    have hw : s.walk = .idle := h.walk_idle free
    exact (turn.settle (OwnWork.wholeWalk s) (hw ▸ h.intact.wholeWalk)).inv
  · exact absurd (hsite hcmd) (by simp [hd])
  · exact HostTurn.handOver ⟨h, by simp [SlotOccupied, hop], installed⟩ hd hm

/-! ## The ATA commands -/

/-- The dispatcher keeps the invariant if the command does on an installed drive that accepted it; a deferrable
command is one of the four (41_ata_commands.md R170, R171). -/
theorem ChannelInv.dispatchCommand (h : ChannelInv s) {v : Byte} {ps : List Protocol} {b : Bool}
    {run : State → Result}
    (hb : b = true → v = 0x20 ∨ v = 0x30 ∨ v = 0xC8 ∨ v = 0xCA)
    (hrun : ∀ u, HostTurn u → (b = true → u.cfg.defer = false) → Answers (run u) ChannelInv) :
    Answers (dispatchCommand v ps b run s) ChannelInv := by
  intro t e
  obtain ⟨-, ⟨-, rfl⟩ | ⟨hop, hi, rfl⟩ | ⟨hop, hi, -, rfl⟩ | ⟨hop, hi, -, hd, hbt, rfl⟩ | ⟨hop, hi, -, hdb, hr⟩⟩ :=
    dispatchCommand_eq_next e
  · exact h
  · exact h.absent hi (by simp [SlotOccupied, hop])
  all_goals
    have turn : HostTurn (acceptCommand v s) := HostTurn.acceptCommand ⟨h, by simp [SlotOccupied, hop], hi⟩ v
  · exact (turn.settle (.raiseError _ _) turn.inv.intact.abort).inv
  · refine turn.handOver hd (.inr ⟨rfl, fun _ _ => ?_⟩)
    rcases hb hbt with rfl | rfl | rfl | rfl <;> decide
  · exact hrun _ turn (fun hbt => by rw [hbt, Bool.and_true] at hdb; exact hdb) t hr

/-- A command whose `Exec` settles the drive. -/
theorem ChannelInv.dispatchBody (h : ChannelInv s) {v : Byte} {ps : List Protocol} {b : Bool} {body : State → State}
    (hb : b = true → v = 0x20 ∨ v = 0x30 ∨ v = 0xC8 ∨ v = 0xCA) (ho : ∀ u, OwnWork u (body u))
    (hs : ∀ {u}, Intact u.slot u.walk u → Settled u.slot u.walk (body u)) :
    Answers (Machine.dispatchCommand v ps b (fun u => .next (body u)) s) ChannelInv :=
  h.dispatchCommand hb fun u turn _ => .next (turn.settle (ho u) (hs turn.inv.intact)).inv

theorem HostTurn.dmaBody (h : HostTurn s) (hd : s.cfg.defer = false) : Answers (dmaBody s) ChannelInv := by
  unfold Machine.dmaBody
  split
  · exact (h.settle (.armDma s) h.inv.intact.armDma).inv.kick fun _ => hd
  · exact .next (h.settle (.raiseError s .abort) h.inv.intact.abort).inv

section Commands

variable (h : ChannelInv s)
include h

theorem ChannelInv.execReadSector : Answers (execReadSector s) ChannelInv :=
  h.dispatchBody (by simp) .readSectorBody Intact.readSectorBody

theorem ChannelInv.execWriteSector : Answers (execWriteSector s) ChannelInv :=
  h.dispatchBody (by simp) .writeSectorBody Intact.writeSectorBody

theorem ChannelInv.execPacket : Answers (execPacket s) ChannelInv :=
  h.dispatchBody (by simp) .packetBody Intact.packetBody

theorem ChannelInv.execIdentifyPacket : Answers (execIdentifyPacket s) ChannelInv :=
  h.dispatchBody (by simp) .identifyBody Intact.identifyBody

theorem ChannelInv.execReadDma : Answers (execReadDma s) ChannelInv :=
  h.dispatchCommand (by simp) fun _ turn hd => turn.dmaBody (hd rfl)

theorem ChannelInv.execWriteDma : Answers (execWriteDma s) ChannelInv :=
  h.dispatchCommand (by simp) fun _ turn hd => turn.dmaBody (hd rfl)

theorem ChannelInv.execStandbyImmediate : Answers (execStandbyImmediate s) ChannelInv :=
  h.dispatchBody (by simp) .completeCommand Intact.completeCommand

theorem ChannelInv.execSleep : Answers (execSleep s) ChannelInv :=
  h.dispatchBody (by simp) .completeCommand Intact.completeCommand

theorem ChannelInv.execFlushCache : Answers (execFlushCache s) ChannelInv :=
  h.dispatchBody (by simp) .flushCacheBody Intact.flushCacheBody

theorem ChannelInv.execIdentify : Answers (execIdentify s) ChannelInv :=
  h.dispatchBody (by simp) .identifyBody Intact.identifyBody

theorem ChannelInv.execSetFeatures : Answers (execSetFeatures s) ChannelInv :=
  h.dispatchBody (by simp) .setFeaturesBody Intact.setFeaturesBody

theorem ChannelInv.execAtaUnknown (v : Byte) : Answers (execAtaUnknown v s) ChannelInv :=
  h.dispatchBody (by simp) (fun u => .raiseError u .abort) Intact.abort

theorem ChannelInv.runCommandByte (v : Byte) : Answers (runCommandByte v s) ChannelInv := by
  unfold Machine.runCommandByte
  split
  · exact h.execReadSector
  · exact h.execWriteSector
  · exact h.execPacket
  · exact h.execIdentifyPacket
  · exact h.execReadDma
  · exact h.execWriteDma
  · exact h.execStandbyImmediate
  · exact h.execSleep
  · exact h.execFlushCache
  · exact h.execIdentify
  · exact h.execSetFeatures
  · exact h.execAtaUnknown v

end Commands

/-! ## The packet commands -/

theorem HostTurn.next_settle (h : HostTurn s) (o : OwnWork s t) (k : Settled s.slot s.walk t) :
    Answers (.next t) ChannelInv := .next (h.settle o k).inv

theorem HostTurn.checkReady (h : HostTurn s) {k : State → Result}
    (hk : ∀ u, HostTurn u → Answers (k u) ChannelInv) : Answers (checkReady s k) ChannelInv := by
  have turn : HostTurn (deviceCall .isReady s) := h.of_view (.deviceCall s _) (by simp)
  unfold Machine.checkReady
  dsimp only
  split
  · exact hk _ turn
  · exact turn.next_settle (.raiseError _ _) (turn.inv.intact.atapiError _ _)

theorem HostTurn.invalidField (h : HostTurn s) : Answers (.next (invalidField s)) ChannelInv :=
  h.next_settle (.invalidField s) h.inv.intact.invalidField

theorem HostTurn.startStream (h : HostTurn s) (lba : Word) (len : Nat) {ss : Nat} (hss : ss = 2048 ∨ ss = 2352) :
    Answers (startStream lba len ss s) ChannelInv := by
  have turn : HostTurn (recordCursor lba len ss s) :=
    h.settle (.recordCursor s lba len ss) (h.settled.recordCursor lba len hss)
  unfold Machine.startStream
  dsimp only
  split
  · have armed := turn.settle (.armStreamDma _ lba len ss) (turn.inv.intact.armStreamDma lba len hss)
    exact armed.inv.kick (by simp)
  · refine turn.next_settle ((OwnWork.loadNextCdSector _).andThen fun u => .atapiStartSend u _ _ _) ?_
    refine turn.inv.intact.loadNextCdSector.andThen_settled turn.settled.shown fun t ht => ?_
    have hroom := ht.form.room
    exact ht.atapiStartSend _ _ (by omega) (by omega) (by omega)

theorem HostTurn.streamRange (h : HostTurn s) (lba : Word) (len : Nat) {ss : Nat} (hss : ss = 2048 ∨ ss = 2352) :
    Answers (streamRange lba len ss s) ChannelInv := by
  have turn : HostTurn (deviceCall .getCapacity s) := h.of_view (.deviceCall s _) (by simp)
  unfold Machine.streamRange
  split
  · exact h.next_settle (.atapiComplete s) h.inv.intact.atapiComplete
  · dsimp only
    split
    · exact turn.next_settle (.raiseError _ _) (turn.inv.intact.atapiError _ _)
    · exact turn.startStream lba len hss

/-- What R219 asks of a payload: `1 <= L <= P_MAX_BLOCK - 1`. -/
abbrev PayloadOk (maxBlock : Nat) (bs : List Byte) : Prop := 1 ≤ bs.length ∧ bs.length + 1 ≤ maxBlock

/-- A payload a table defines is one of its rows'. -/
theorem payloadOk_of_lookup {κ : Type} [BEq κ] [LawfulBEq κ] {maxBlock : Nat} {rows : List (κ × List Byte)} {k : κ}
    {bs : List Byte} (h : rows.all (fun r => decide (PayloadOk maxBlock r.2)) = true)
    (e : rows.lookup k = some bs) : PayloadOk maxBlock bs := by
  obtain ⟨l₁, l₂, rfl, -⟩ := List.lookup_eq_some_iff.mp e
  exact of_decide_eq_true (List.all_eq_true.mp h (k, bs) (by simp))

/-- The payloads of a drive's configuration all fit the buffer. -/
structure PayloadsOk (maxBlock : Nat) (c : DriveConfig) : Prop where
  inquiry : PayloadOk maxBlock c.inquiry
  modeSense6 : ∀ k bs, c.modeSense6.lookup k = some bs → PayloadOk maxBlock bs
  modeSense10 : ∀ k bs, c.modeSense10.lookup k = some bs → PayloadOk maxBlock bs
  dvdStruct : ∀ k bs, c.dvdStruct.lookup k = some bs → PayloadOk maxBlock bs
  toc : ∀ rows k bs, c.toc = .table rows → rows.lookup k = some bs → PayloadOk maxBlock bs

theorem payloadsOk_of_wf {maxBlock : Nat} {c : DriveConfig} (h : c.wf maxBlock = true) : PayloadsOk maxBlock c := by
  simp only [DriveConfig.wf, Bool.and_eq_true] at h
  obtain ⟨⟨⟨⟨⟨⟨-, hinquiry⟩, h6⟩, h10⟩, hdvd⟩, htoc⟩, -⟩ := h
  refine ⟨of_decide_eq_true hinquiry, fun _ _ => payloadOk_of_lookup h6, fun _ _ => payloadOk_of_lookup h10,
    fun _ _ => payloadOk_of_lookup hdvd, fun rows k bs e => ?_⟩
  rw [e] at htoc
  exact payloadOk_of_lookup htoc

theorem FormOk.payloads (h : FormOk s) : PayloadsOk s.cfg.maxBlock s.selCfg := by
  obtain ⟨-, -, hdrives⟩ := ChannelConfig.wf_iff.mp h.config
  exact payloadsOk_of_wf (hdrives s.selectedDrive)

theorem HostTurn.sendFixed (h : HostTurn s) {payload : List Byte} (alloclen : Nat)
    (hp : PayloadOk s.cfg.maxBlock payload) : Answers (.next (sendFixed payload alloclen s)) ChannelInv :=
  h.next_settle (.sendFixed s payload alloclen) (h.settled.sendFixed payload alloclen hp.1 hp.2)

theorem HostTurn.sendIfDefined (h : HostTurn s) {payload : Option (List Byte)} (alloclen : Nat)
    (hp : ∀ bs, payload = some bs → PayloadOk s.cfg.maxBlock bs) :
    Answers (.next (sendIfDefined payload alloclen s)) ChannelInv :=
  h.next_settle (.sendIfDefined s payload alloclen) (h.settled.sendIfDefined alloclen hp)

theorem HostTurn.requestSenseBody (h : HostTurn s) (alloc : Byte) :
    Answers (requestSenseBody alloc s) ChannelInv := by
  have hroom := h.inv.form.room
  have hlength : (sensePayload s.selCd).length = 18 := rfl
  exact h.sendFixed _ ⟨by omega, by omega⟩

theorem HostTurn.inquiryBody (h : HostTurn s) (alloc : Byte) : Answers (inquiryBody alloc s) ChannelInv :=
  h.sendFixed _ h.inv.form.payloads.inquiry

theorem HostTurn.modeSense6Body (h : HostTurn s) (pc : BitVec 2) (page : BitVec 6) (alloc : Byte) :
    Answers (modeSense6Body pc page alloc s) ChannelInv :=
  h.sendIfDefined _ (h.inv.form.payloads.modeSense6 _)

theorem HostTurn.modeSense10Body (h : HostTurn s) (pc : BitVec 2) (page : BitVec 6) (alloc : Half) :
    Answers (modeSense10Body pc page alloc s) ChannelInv :=
  h.sendIfDefined _ (h.inv.form.payloads.modeSense10 _)

theorem tocPayload_ok {maxBlock : Nat} {c : DriveConfig} (h : PayloadsOk maxBlock c) (hroom : 2352 ≤ maxBlock)
    {capacity : Nat} {msf : Bool} {format : BitVec 4} {track : Byte} {bs : List Byte}
    (e : tocPayload c.toc capacity msf format track = some bs) : PayloadOk maxBlock bs := by
  unfold tocPayload at e
  split at e
  · split at e
    · cases e
      have hlength : (singleTrackToc capacity).length = 20 := rfl
      exact ⟨by omega, by omega⟩
    · cases e
  · next rows heq =>
    exact h.toc rows _ bs heq e

/-- The table of contents asks the device for its capacity at most, and gives the parameter's payload. -/
theorem tocOf_eq (msf : Bool) (format : BitVec 4) (track : Byte) (s : State) :
    (tocOf msf format track s).1.view = s.view ∧
      (tocOf msf format track s).2 = tocPayload s.selCfg.toc s.selDevice.capacity msf format track := by
  unfold tocOf
  dsimp only
  split
  · exact ⟨rfl, rfl⟩
  · exact ⟨rfl, rfl⟩
  · exact ⟨rfl, rfl⟩

theorem HostTurn.readTocBody (h : HostTurn s) (msf : Bool) (format : BitVec 4) (track : Byte) (alloc : Half) :
    Answers (readTocBody msf format track alloc s) ChannelInv :=
  h.checkReady fun u turn => by
    obtain ⟨hview, hpayload⟩ := tocOf_eq msf format track u
    have turn' := turn.of_view (.tocOf u msf format track) hview
    have hcfg : (tocOf msf format track u).1.cfg = u.cfg := (OwnWork.tocOf u msf format track).cfg
    refine turn'.sendIfDefined _ fun bs e => ?_
    rw [hcfg]
    exact tocPayload_ok turn.inv.form.payloads turn.inv.form.room (hpayload.symm.trans e)

theorem HostTurn.readDvdStructureBody (h : HostTurn s) (address : Word) (layer format : Byte) (alloc : Half) :
    Answers (readDvdStructureBody address layer format alloc s) ChannelInv :=
  h.checkReady fun _ turn =>
    turn.sendIfDefined _ (turn.inv.form.payloads.dvdStruct _)

theorem HostTurn.readBlocksBody (h : HostTurn s) (lba : Word) (len : Nat) :
    Answers (readBlocksBody lba len s) ChannelInv :=
  h.checkReady fun _ turn => turn.streamRange lba len (.inl rfl)

theorem HostTurn.stubbedPath (h : HostTurn s) : Answers (.next (stubbedPath s)) ChannelInv := by
  refine h.next_settle (.stubbedPath s) ?_
  unfold Machine.stubbedPath
  split
  · exact h.settled.fatal _
  · exact h.inv.intact.invalidField

/-- A READ_CD reads sectors of 2048 or of 2352 bytes (42_atapi_packet.md R212). -/
theorem readCdRequest_size {sub : Byte} {subch : BitVec 3} {ss : Nat} (h : readCdRequest sub subch = .sectors ss) :
    ss = 2048 ∨ ss = 2352 := by
  unfold readCdRequest at h
  split_ifs at h <;> cases h
  · exact .inl rfl
  · exact .inr rfl

theorem HostTurn.readCdBody (h : HostTurn s) (lba : Word) (len : BitVec 24) (sub : Byte) (subch : BitVec 3) :
    Answers (readCdBody lba len sub subch s) ChannelInv :=
  h.checkReady fun u turn => by
    split
    · exact turn.stubbedPath
    · exact turn.next_settle (.atapiComplete u) turn.inv.intact.atapiComplete
    · next ss heq => exact turn.streamRange lba _ (readCdRequest_size heq)
    · exact turn.invalidField

theorem HostTurn.dispatchPacket (h : HostTurn s) (p0 p1 p2 p3 p4 p5 p6 p7 p8 p9 p10 : Byte) :
    Answers (dispatchPacket p0 p1 p2 p3 p4 p5 p6 p7 p8 p9 p10 s) ChannelInv := by
  unfold Machine.dispatchPacket
  split
  · exact h.requestSenseBody _
  · exact h.inquiryBody _
  · exact h.modeSense6Body _ _ _
  · exact h.modeSense10Body _ _ _
  · exact h.readTocBody _ _ _ _
  · exact h.readDvdStructureBody _ _ _ _
  · exact h.readBlocksBody _ _
  · exact h.readBlocksBody _ _
  · exact h.readCdBody _ _ _ _
  · exact h.invalidField

/-- A delivered packet reaches an installed drive that waits for one. -/
theorem ChannelInv.deliverPacket (h : ChannelInv s) (bytes : List Byte) {body : State → Result}
    (hb : ∀ u, HostTurn u → Answers (body u) ChannelInv) : Answers (deliverPacket bytes body s) ChannelInv := by
  intro t e
  obtain ⟨-, rfl | ⟨hop, hopen, ht⟩⟩ := deliverPacket_eq_next e
  · exact h
  · simp only [packetOpen, Bool.and_eq_true, beq_iff_eq] at hopen
    have turn : HostTurn s :=
      ⟨h, by simp [SlotOccupied, hop], h.installed_of_phase (by rw [hopen.1]; decide)⟩
    have hput := turn.settled.putBuffer 0 bytes
    refine hb _ (turn.settle ((OwnWork.putBuffer s 0 bytes).trans (.withDrive _ _)) ?_) t ht
    exact hput.settle (hput.form.cursor.rewind rfl rfl) hput.form.head hput.shown

end Sys2Proof.Machine
end

section
/-!
The data register and the byte registers keep the invariant (40_register_access.md R131 to R157).
-/

namespace Sys2Proof.Machine

variable {s t : State}

/-! ## The cursor -/

/-- The cursor of the selected drive at a position. -/
def cursorAt (p : Nat) (s : State) : State := s.withDrive { s.sel with sectorPos := p }

@[simp] theorem cursorAt_sectorPos (p : Nat) (s : State) : (cursorAt p s).sel.sectorPos = p := by simp [cursorAt]

@[simp] theorem cursorAt_unitSize (p : Nat) (s : State) : (cursorAt p s).sel.unitSize = s.sel.unitSize := by
  simp [cursorAt]

theorem OwnWork.cursorAt (s : State) (p : Nat) : OwnWork s (cursorAt p s) := .withDrive s _

theorem HostTurn.cursorAt (h : HostTurn s) {p : Nat} (he : p % 2 = 0) (hlt : p < s.sel.unitSize) :
    HostTurn (cursorAt p s) := by
  obtain ⟨-, heven, -, hroom⟩ := h.inv.form.cursor
  exact h.settle (.cursorAt s p) (h.settled.settle ⟨he, heven, hlt, hroom⟩ h.inv.form.head h.settled.shown)

theorem HostTurn.rewind (h : HostTurn s) : HostTurn (Machine.cursorAt 0 s) := by
  obtain ⟨-, -, hlt, -⟩ := h.inv.form.cursor
  exact h.cursorAt rfl (by omega)

/-- The cursor is set back from wherever it stood. -/
theorem HostTurn.rewind_cursorAt (h : HostTurn s) (p : Nat) : HostTurn (Machine.cursorAt 0 (Machine.cursorAt p s)) := by
  have e : Machine.cursorAt 0 (Machine.cursorAt p s) = Machine.cursorAt 0 s := by simp [Machine.cursorAt]
  rw [e]
  exact h.rewind

/-- A cursor moved by one item is still even, and at most at the unit's end. -/
theorem HostTurn.nextItem (h : HostTurn s) :
    (s.sel.sectorPos + 2) % 2 = 0 ∧ s.sel.sectorPos + 2 ≤ s.sel.unitSize := by
  obtain ⟨hpos, heven, hlt, -⟩ := h.inv.form.cursor
  omega

/-- The rules at a unit's end set the cursor themselves, so it does not matter where it stood. -/
theorem endOneUnit_cursorAt (p : Nat) (s : State) : endOneUnit (cursorAt p s) = endOneUnit s := by
  simp [endOneUnit, cursorAt]

theorem endReadUnit_cursorAt (p : Nat) (s : State) : endReadUnit (cursorAt p s) = endReadUnit s := by
  simp [endReadUnit, cursorAt]

theorem endWriteUnit_cursorAt (p : Nat) (s : State) : endWriteUnit (cursorAt p s) = endWriteUnit s := by
  simp [endWriteUnit, cursorAt]

/-- A block call does not read the registers of the drive. -/
theorem readBlockAt_withDrive (lba n : Nat) (x : Drive) (s : State) :
    readBlockAt lba n (s.withDrive x) = ((readBlockAt lba n s).1.withDrive x, (readBlockAt lba n s).2) := by
  rw [readBlockAt_eq, readBlockAt_eq]
  rfl

theorem raiseError_abort_cursorAt (p : Nat) (s : State) :
    raiseError .abort (cursorAt p s) = raiseError .abort s := by
  simp [raiseError, cursorAt]

theorem loadNextCdSector_cursorAt (p : Nat) (s : State) :
    loadNextCdSector (cursorAt p s) = loadNextCdSector s := by
  have hsel := sel_eq_of_view (view_readBlockAt s s.selCd.nextLba.toNat s.selCd.sectorSize)
  have hread : readBlockAt s.selCd.nextLba.toNat s.selCd.sectorSize (cursorAt p s) =
      (cursorAt p (readBlockAt s.selCd.nextLba.toNat s.selCd.sectorSize s).1,
        (readBlockAt s.selCd.nextLba.toNat s.selCd.sectorSize s).2) := by
    simp only [cursorAt, readBlockAt_withDrive, hsel]
  have hcd : (cursorAt p s).selCd = s.selCd := rfl
  unfold loadNextCdSector
  rw [hcd, hread]
  rcases readBlockAt s.selCd.nextLba.toNat s.selCd.sectorSize s with ⟨u, _ | bs⟩
  · simp only [raiseError_abort_cursorAt]
  · simp [cursorAt, State.putBuffer]

/-! ## Reads of the data register -/

theorem HostTurn.endOneUnit (h : HostTurn s) : HostTurn (endOneUnit s) :=
  h.settle (.endOneUnit s) h.inv.intact.endOneUnit

theorem HostTurn.nextUnit (h : HostTurn s) : HostTurn (nextUnit s) :=
  h.settle (.nextUnit s) h.settled.nextUnit

/-- The end of a unit of READ_SECTOR ends the command, hands the next load over, or makes it
(40_register_access.md R133). -/
theorem HostTurn.endReadUnit (h : HostTurn s) (hs : s.sel.state = .pioRead) : ChannelInv (endReadUnit s) := by
  have next : HostTurn (Machine.nextUnit (Machine.cursorAt 0 s)) := h.rewind.nextUnit
  have hstate : (Machine.nextUnit (Machine.cursorAt 0 s)).sel.state = .pioRead := by
    rw [nextUnit_state]
    simpa [Machine.cursorAt] using hs
  unfold Machine.endReadUnit
  generalize hu : Machine.nextUnit (s.withDrive { s.sel with sectorPos := 0 }) = u
  change Machine.nextUnit (Machine.cursorAt 0 s) = u at hu
  rw [hu] at next hstate
  dsimp only
  split
  · have hk := next.settled.settle (x := { u.sel with status := statusReady, state := .idle }) next.inv.form.cursor
      next.inv.form.head (.inl ⟨rfl, .inl rfl⟩)
    exact (next.settle (.withDrive u _) hk).inv
  · split
    · next hd => exact next.handOver hd (.inl ⟨rfl, rfl, rfl, hstate⟩)
    · have hk := next.inv.intact.continueSector (by rw [hstate]; decide)
      exact (next.settle (.continueSector u) hk).inv

theorem HostTurn.atapiBoundary (h : HostTurn s) {p : Nat} (he : p % 2 = 0) :
    HostTurn (atapiBoundary (Machine.cursorAt p s)) := by
  have hpos := cursorAt_sectorPos p s
  have hunit := cursorAt_unitSize p s
  have wrapped : HostTurn (wrapCursor (Machine.cursorAt p s)) := by
    rcases wrapCursor_cases (Machine.cursorAt p s) with ⟨hlt, e⟩ | ⟨-, e⟩ <;> rw [e]
    · exact h.cursorAt he (by omega)
    · exact h.rewind_cursorAt p
  unfold Machine.atapiBoundary
  split
  · exact wrapped.settle (.atapiComplete _) wrapped.inv.intact.atapiComplete
  · split
    · rw [loadNextCdSector_cursorAt]
      refine h.settle ((OwnWork.loadNextCdSector s).andThen .nextDataBlock) ?_
      exact h.inv.intact.loadNextCdSector.andThen_settled h.settled.shown fun _ ht => ht.nextDataBlock
    · have inside := h.cursorAt he (by omega : p < s.sel.unitSize)
      exact inside.settle (.nextDataBlock _) inside.settled.nextDataBlock

/-- The counters of a packet command's data after one item (40_register_access.md R134). -/
def countPacketItem (s : State) : State :=
  let s1 := s.withDrive { s.sel with drqPos := s.sel.drqPos + 2 }
  s1.withCd { s1.selCd with remainingBytes := s1.selCd.remainingBytes - 2 }

theorem HostTurn.countPacketItem (h : HostTurn s) : HostTurn (countPacketItem s) := by
  have moved := h.settled.settle (x := { s.sel with drqPos := s.sel.drqPos + 2 }) h.inv.form.cursor h.inv.form.head
    h.settled.shown
  exact h.settle ((OwnWork.withDrive s _).trans (.withCd _ _)) (moved.withCd moved.form.sector)

theorem countPacketItem_cursorAt (p : Nat) (s : State) :
    countPacketItem (cursorAt p s) = cursorAt p (countPacketItem s) := by
  simp [countPacketItem, cursorAt, State.withDrive, State.withCd, State.sel, State.selCd]

theorem HostTurn.afterDataRead (h : HostTurn s) (hs : s.sel.state = .pioRead) :
    ChannelInv (afterDataRead (Machine.cursorAt (s.sel.sectorPos + 2) s)) := by
  obtain ⟨heven, hle⟩ := h.nextItem
  generalize s.sel.sectorPos + 2 = p at heven hle ⊢
  have hpos := cursorAt_sectorPos p s
  have hunit := cursorAt_unitSize p s
  unfold Machine.afterDataRead
  split
  · change ChannelInv (Machine.atapiBoundary (Machine.countPacketItem (Machine.cursorAt p s)))
    rw [countPacketItem_cursorAt]
    exact (h.countPacketItem.atapiBoundary heven).inv
  · split
    · rw [endReadUnit_cursorAt, endOneUnit_cursorAt]
      split
      · exact h.endReadUnit hs
      · exact h.endOneUnit.inv
    · exact (h.cursorAt heven (by omega)).inv

theorem ChannelInv.execIor16Data (h : ChannelInv s) : Answers (execIor16Data s) ChannelInv := by
  refine .hostAccess ?_
  split
  · next hopen =>
    simp only [dataReadOpen, Bool.and_eq_true, Bool.not_eq_true', beq_iff_eq] at hopen
    obtain ⟨hs, hb⟩ := hopen
    have turn : HostTurn s := ⟨h, h.free_of_not_busy hb, h.installed_of_phase (by rw [hs]; decide)⟩
    have answered : HostTurn (s.returns ((bufferItem s.sel).setWidth 32)) := turn.of_view (.returns s _) rfl
    exact .next (answered.afterDataRead hs)
  · exact .next h

/-! ## Writes of the data register -/

theorem HostTurn.endWriteUnit (h : HostTurn s) : HostTurn (endWriteUnit s) := by
  have start := h.rewind
  refine h.settle (.endWriteUnit s) ?_
  refine start.inv.intact.storeUnit.andThen_settled start.settled.shown fun t ht => ?_
  have next := ht.nextUnit
  refine Settled.raiseInterrupt ?_
  split
  · exact next.settle next.form.cursor next.form.head (.inl ⟨rfl, .inl rfl⟩)
  · exact next

theorem HostTurn.afterDataWrite (h : HostTurn s) :
    Answers (afterDataWrite (Machine.cursorAt (s.sel.sectorPos + 2) s)) ChannelInv := by
  obtain ⟨heven, hle⟩ := h.nextItem
  generalize s.sel.sectorPos + 2 = p at heven hle ⊢
  have hpos := cursorAt_sectorPos p s
  have hunit := cursorAt_unitSize p s
  unfold Machine.afterDataWrite
  split
  · split
    · exact (h.rewind_cursorAt p).dispatchPacket _ _ _ _ _ _ _ _ _ _ _
    · rw [endWriteUnit_cursorAt]
      exact .next h.endWriteUnit.inv
  · exact .next (h.cursorAt heven (by omega)).inv

theorem ChannelInv.execIow16Data (h : ChannelInv s) (v : Half) : Answers (execIow16Data v s) ChannelInv := by
  refine .hostWrite h fun hop => ?_
  split
  · next hopen =>
    simp only [dataWriteOpen, Bool.and_eq_true, Bool.or_eq_true, beq_iff_eq] at hopen
    have hs : s.sel.state ≠ .idle := by rcases hopen.1 with e | e <;> rw [e] <;> decide
    have turn : HostTurn s := ⟨h, by simp [SlotOccupied, hop], h.installed_of_phase hs⟩
    have stored := turn.settle (.putBuffer s _ _)
      (turn.settled.putBuffer s.sel.sectorPos [byteOf v 0, byteOf v 1])
    exact stored.afterDataWrite
  · exact .next h

/-! ## Byte registers -/

theorem ChannelInv.readByte (h : ChannelInv s) (v : Byte) : Answers (readByte v s) ChannelInv :=
  .hostAccess (.next h)

/-- A cancelled interrupt leaves line and pending bit equal. -/
theorem ChannelInv.cancelInterrupt (h : ChannelInv s) : ChannelInv (cancelInterrupt s) := by
  obtain ⟨hc, hmaster, hslave, -, hm, hb⟩ := h
  exact ⟨hc, hmaster, hslave, rfl, hm, hb⟩

theorem ChannelInv.accessError (h : ChannelInv s) (a : Access) : ChannelInv (accessError a s) := by
  unfold Machine.accessError
  split
  · exact h.accessRefused
  · exact h.accessRefused

theorem ChannelInv.hostTransaction (h : ChannelInv s) (a : Access) {r : Result} (hr : Answers r ChannelInv) :
    Answers (hostTransaction a s r) ChannelInv := by
  unfold Machine.hostTransaction
  split
  · exact .hostWrite h fun _ => hr
  · exact .hostAccess hr

/-- A write of a task-file register that the invariant does not name. -/
theorem ChannelInv.writeRegister (h : ChannelInv s) {x : Drive} (status : x.status = s.sel.status)
    (state : x.state = s.sel.state) (pos : x.sectorPos = s.sel.sectorPos) (unit : x.unitSize = s.sel.unitSize)
    (head : x.head = s.sel.head) : Answers (hostWrite s (.next (s.withDrive x))) ChannelInv :=
  .hostWrite h fun _ => .next (h.setRegister status state pos unit head)

/-! ## The selection and the software reset -/

/-- Another drive is selected while no deferred access is in the mailbox. -/
theorem ChannelInv.select (h : ChannelInv s) (hop : s.slot.op = .idle) (d : DriveId) :
    ChannelInv { s with selectedDrive := d } := by
  have free : ¬SlotOccupied s := by simp [SlotOccupied, hop]
  refine channelInv_iff.mpr ⟨h.form.config, fun e => ?_, h.line,
    mailboxOk_of_free free (h.walk_idle free) fun _ => hop, h.form.busMaster⟩
  exact (h.registers e).congr (iff_of_false (fun c => free c.2) fun c => free c.2)

/-- The head register of the drive its bit 4 selects. -/
theorem ChannelInv.setHead (h : ChannelInv s) {v : Byte} (hv : driveSelected v = s.selectedDrive) :
    ChannelInv (s.withDrive { s.sel with head := v }) :=
  h.withDrive rfl { h.selected with head := hv }

theorem ChannelInv.clearError (h : ChannelInv s) (hi : s.selCfg.installed = true) :
    ChannelInv (s.withDrive { s.sel with status := withoutError s.sel.status, error := errorNone }) := by
  obtain ⟨hc, hl, hr, hb, hh, ha, hp, hs⟩ := h.selected
  obtain ⟨hl', hq', hb', ha'⟩ := hl.withoutError (hp hi)
  exact h.withDrive rfl ⟨hc, hl', hq' ▸ hb' ▸ hr, hb' ▸ hb, hh, ha, fun _ => ha', hs⟩

theorem ChannelInv.execIow8DriveHead (h : ChannelInv s) (v : Byte) : Answers (execIow8DriveHead v s) ChannelInv := by
  refine .hostWrite h fun hop => .next ?_
  have free : ¬SlotOccupied s := by simp [SlotOccupied, hop]
  have selected : ChannelInv
      (({ s with selectedDrive := driveSelected v } : State).withDrive
        { ({ s with selectedDrive := driveSelected v } : State).sel with head := v }) :=
    (h.select hop (driveSelected v)).setHead rfl
  split
  · next hi => exact selected.clearError hi
  · next hi => exact selected.absent (by simpa using hi) free

theorem ChannelInv.softwareReset (h : ChannelInv s) (hop : s.slot.op = .idle) : ChannelInv (softwareReset s) := by
  have free : ¬SlotOccupied s := by simp [SlotOccupied, hop]
  refine channelInv_iff.mpr ⟨h.form.config, fun d => ?_, rfl,
    mailboxOk_of_free free (h.walk_idle free) fun _ => hop, h.form.busMaster⟩
  cases d
  · exact .reset h.form.config .master (fun c => free c.2) _ _
  · exact .reset h.form.config .slave (fun c => free c.2) _ _

theorem ChannelInv.execIow8Output (h : ChannelInv s) (v : Byte) : Answers (execIow8Output v s) ChannelInv := by
  refine .hostWrite h fun hop => .next ?_
  have written : ChannelInv (s.withDrive { s.sel with outputControl := v }) := h.setRegister rfl rfl rfl rfl rfl
  split
  · exact written.softwareReset hop
  · exact written

/-! ## The bus-master registers -/

theorem ChannelInv.withBm (h : ChannelInv s) {b : BusMaster} (hb : BusMasterOk (s.withBm b)) :
    ChannelInv (s.withBm b) := by
  obtain ⟨hc, hmaster, hslave, hl, hm, -⟩ := h
  exact ⟨hc, hmaster, hslave, hl, hm, hb⟩

theorem ChannelInv.writeBmCommand (h : ChannelInv s) (v : Byte) : Answers (writeBmCommand v s) ChannelInv := by
  have stored := h.withBm (h.form.busMaster.storedCommand v)
  unfold Machine.writeBmCommand
  dsimp only
  split_ifs
  · exact (stored.withBm stored.form.busMaster.withActive).kick (by simp)
  · exact .next (stored.withBm stored.form.busMaster.withoutActive)
  · exact .next stored

theorem ChannelInv.writeBmStatus (h : ChannelInv s) (v : Byte) : ChannelInv (writeBmStatus v s) := by
  have written := h.withBm (h.form.busMaster.writtenStatus v)
  unfold Machine.writeBmStatus
  dsimp only
  split
  · exact written.cancelInterrupt
  · exact written

theorem ChannelInv.bmWriteByte (h : ChannelInv s) (o : Nat) (v : Byte) : Answers (bmWriteByte o v s) ChannelInv := by
  unfold Machine.bmWriteByte
  dsimp only
  split
  · exact .next h
  · split
    · exact h.writeBmCommand v
    · exact .next h
    · exact .next (h.writeBmStatus v)
    · exact .next (h.withBm h.form.busMaster)
    · exact .next (h.withBm h.form.busMaster)
    · exact .next (h.withBm h.form.busMaster)
    · exact .next (h.withBm h.form.busMaster)
    · exact .next (h.withBm h.form.busMaster)
    · exact .next h

theorem ChannelInv.bmWriteBytes (h : ChannelInv s) (bs : List Byte) (o : Nat) :
    Answers (bmWriteBytes o bs s) ChannelInv := by
  induction bs generalizing o s with
  | nil => exact .next h
  | cons b bs ih => exact .andThen (h.bmWriteByte o b) fun _ hm => ih hm (o + 1)

theorem ChannelInv.bmAccess (h : ChannelInv s) (o : Nat) (a : Access) : Answers (bmAccess o a s) ChannelInv := by
  unfold Machine.bmAccess
  split
  · exact h.bmWriteBytes _ o
  · exact .next h

theorem ChannelInv.execBmOtherChannel (h : ChannelInv s) (offset : Byte) (a : Access) :
    Answers (execBmOtherChannel offset a s) ChannelInv := by
  refine .hostAccess ?_
  split
  · exact .next h
  · exact .next h

theorem ChannelInv.execCfgAlias (h : ChannelInv s) (offset : Byte) (a : Access) :
    Answers (execCfgAlias offset a s) ChannelInv := by
  refine .hostAccess ?_
  split
  · exact h.bmAccess _ a
  · refine .next ?_
    split
    · exact h
    · exact h

/-- The walk that runs is replaced by another that runs: the mailbox allows the one as the other. -/
theorem ChannelInv.replaceWalk (h : ChannelInv s) {w : Walker} (hw : s.walk = .running w) (w' : Walker) :
    ChannelInv (s.withWalk (.running w')) := by
  obtain ⟨hdefer, hwrite, hinst, hread, -⟩ := h.mailbox
  have hne : s.walk ≠ .idle := by rw [hw]; exact Walk.noConfusion
  have mailbox : MailboxOk (s.withWalk (.running w')) :=
    ⟨fun hd => absurd (hdefer hd).2 hne, fun _ => hwrite hne, hinst, hread, fun _ _ _ e => by cases e⟩
  exact h.of_own (.withWalk s _) mailbox h.form.busMaster h.selected

theorem ChannelInv.execPrdEntry (h : ChannelInv s) (address : Word) (count : Half) (ignored : BitVec 15) (eot : Bool) :
    Answers (execPrdEntry address count ignored eot s) ChannelInv := by
  refine .hostAccess ?_
  split
  · next w hw =>
    refine .next ?_
    split
    · exact h.replaceWalk hw _
    · exact h
  · exact .next h
  · exact .next h

end Sys2Proof.Machine
end

section
/-!
The worker's turns keep the invariant (60_exceptions.md R295), and with the host's accesses and the environment's
changes every step does (10_state.md R45).
-/

namespace Sys2Proof.Machine

variable {s t : State}

/-! ## Turns of the worker on a deferred operation -/

/-- A deferred operation is outstanding: the invariant holds and the mailbox holds a register access. -/
structure WorkerTurn (s : State) : Prop where
  inv : ChannelInv s
  occupied : SlotOccupied s

theorem WorkerTurn.installed (h : WorkerTurn s) : s.selCfg.installed = true := by
  obtain ⟨-, -, hinst, -⟩ := h.inv.mailbox
  exact hinst h.occupied

/-- Deferred operations exist only where deferral is configured. -/
theorem WorkerTurn.defer (h : WorkerTurn s) : s.cfg.defer = true := by
  by_contra hd
  have hop := h.inv.op_idle (by simpa using hd)
  rcases h.occupied with e | e <;> cases hop.symm.trans e

/-- The operation's last step settles the drive and frees the mailbox. -/
theorem WorkerTurn.finish (h : WorkerTurn s) (o : OwnWork s t) (k : Settled s.slot .idle t) :
    ChannelInv (finishOperation t) := by
  have e : finishOperation t = freeSlot t := by rw [finishOperation, if_pos k.walk]
  have free : ¬SlotOccupied (freeSlot t) := by simp [SlotOccupied, freeSlot]
  have installed : (freeSlot t).selCfg.installed = true := by
    rw [(o.trans (.freeSlot t)).selCfg]
    exact h.installed
  have hk := k.withSlot { t.slot with op := .idle }
  rw [e]
  exact h.inv.of_own (o.trans (.freeSlot t)) (mailboxOk_of_free free k.walk fun _ => rfl) k.form.busMaster
    (.of_phaseShown k.shown free installed hk.form.cursor hk.form.head hk.form.sector)

/-- A step after which a walk is left keeps the mailbox, and the drive shows BSY still. -/
theorem WorkerTurn.goOn (h : WorkerTurn s) (hop : s.slot.op = .write) {v : Walk} (hv : v ≠ .idle) (o : OwnWork s t)
    (k : Intact s.slot v t) (hl : StatusLegal t.sel.status) (hb : isBusy t.sel.status = true) : ChannelInv t := by
  have installed : t.selCfg.installed = true := by rw [o.selCfg]; exact h.installed
  have hop' : t.slot.op = .write := by rw [k.slot]; exact hop
  have hwalk : t.walk ≠ .idle := by rw [k.walk]; exact hv
  have hd : t.cfg.defer = true := by rw [o.cfg]; exact h.defer
  have mailbox : MailboxOk t :=
    ⟨fun e => absurd (hd.symm.trans e) (by decide), fun _ => hop', fun _ => installed,
      fun e => absurd (hop'.symm.trans e) (by decide), fun _ _ _ e => absurd e hwalk⟩
  exact h.inv.of_own o mailbox k.form.busMaster
    (.of_busy (.inr hop') hb hl installed k.form.cursor k.form.head k.form.sector)

theorem finishOperation_of_walk (h : s.walk ≠ .idle) : finishOperation s = s := by rw [finishOperation, if_neg h]

/-- The drive of an outstanding operation shows BSY. -/
theorem WorkerTurn.busy (h : WorkerTurn s) : isBusy s.sel.status = true := h.inv.selected.busy.mpr h.occupied

theorem WorkerTurn.walkStep (h : WorkerTurn s) (hop : s.slot.op = .write) (w : Walker) :
    ChannelInv (finishOperation (walkStep w s)) := by
  rcases h.inv.intact.walkStep (w := w) with hdone | ⟨w', hk, hst, -, -⟩
  · exact h.finish (.walkStep s w) hdone
  · have hne : (Machine.walkStep w s).walk ≠ .idle := by rw [hk.walk]; exact Walk.noConfusion
    rw [finishOperation_of_walk hne]
    exact h.goOn hop Walk.noConfusion (.walkStep s w) hk (hst ▸ h.inv.selected.legal) (hst ▸ h.busy)

theorem WorkerTurn.startDeferredWalk (h : WorkerTurn s) (hop : s.slot.op = .write) :
    Answers (startDeferredWalk s) ChannelInv := by
  unfold Machine.startDeferredWalk ifDirectionAgrees
  split
  · have hsel := walkSetup_sel s
    exact .next (h.goOn hop Walk.noConfusion (.walkSetup s) h.inv.intact.walkSetup
      (by rw [hsel]; exact h.inv.selected.legal) (by rw [hsel]; exact h.busy))
  · exact .refused _

/-- A deferred DMA command ends, or leaves its walk to the next steps (43_busmaster_dma.md R247). -/
theorem WorkerTurn.dmaBody (h : WorkerTurn s) (hop : s.slot.op = .write) (hw : s.walk = .idle) :
    Answers (dmaBody s) fun t => ChannelInv (finishOperation t) := by
  have armed : Settled s.slot .idle (armDma s) := (hw ▸ h.inv.intact).armDma
  unfold Machine.dmaBody
  split
  · intro t e
    rcases kick_changes e with rfl | ⟨-, ⟨hd, -⟩ | ⟨-, -, rfl⟩ | ⟨-, hidle, -⟩⟩
    · exact h.finish (.armDma s) armed
    · exact absurd h.defer (by rw [show s.cfg.defer = false from hd]; decide)
    · have k := (armed.toIntact.withDrive (x := { (armDma s).sel with status := statusBusy }) armed.form.cursor
        armed.form.head).withWalk .pending
      have hsel : ((((armDma s).withDrive { (armDma s).sel with status := statusBusy }).withWalk .pending).sel).status =
          statusBusy := by simp
      rw [finishOperation_of_walk Walk.noConfusion]
      exact h.goOn hop Walk.noConfusion (((OwnWork.armDma s).trans (.withDrive _ _)).trans (.withWalk _ _)) k
        (by rw [hsel]; decide) (by rw [hsel]; decide)
    · cases hop.symm.trans hidle
  · exact .next (h.finish (.raiseError s .abort) (hw ▸ h.inv.intact).abort)

theorem WorkerTurn.execDeferred (h : WorkerTurn s) (hop : s.slot.op = .write) (hw : s.walk = .idle) {v : Byte}
    (hv : v = 0x20#8 ∨ v = 0x30#8 ∨ v = 0xC8#8 ∨ v = 0xCA#8) :
    Answers (execDeferred v s) fun t => ChannelInv (finishOperation t) := by
  have intact : Intact s.slot .idle s := hw ▸ h.inv.intact
  rcases hv with rfl | rfl | rfl | rfl
  · exact .next (h.finish (.readSectorBody s) intact.readSectorBody)
  · exact .next (h.finish (.writeSectorBody s) intact.writeSectorBody)
  · exact h.dmaBody hop hw
  · exact h.dmaBody hop hw

theorem ChannelInv.beginOperation (h : ChannelInv s) (hw : s.walk = .idle) :
    Answers (beginOperation s) ChannelInv := by
  obtain ⟨-, -, -, hread, hwrite⟩ := h.mailbox
  unfold Machine.beginOperation
  split
  · next hop hreg hport =>
    have turn : WorkerTurn s := ⟨h, .inr hop⟩
    exact .andThen (turn.execDeferred hop hw (hwrite hop hreg hport hw)) fun _ hm => .next hm
  · next hop hreg hport =>
    have turn : WorkerTurn s := ⟨h, .inl hop⟩
    obtain ⟨-, -, hs⟩ := hread hop
    exact .next (turn.finish (.continueSector s)
      ((hw ▸ h.intact : Intact s.slot .idle s).continueSector (by rw [hs]; decide)))
  · next hop _ => exact WorkerTurn.startDeferredWalk ⟨h, .inr hop⟩ hop
  · next hop _ _ => exact WorkerTurn.startDeferredWalk ⟨h, .inr hop⟩ hop
  · exact .next h

theorem ChannelInv.workerStep (h : ChannelInv s) : Answers (workerStep s) ChannelInv := by
  obtain ⟨-, hwrite, -⟩ := h.mailbox
  refine .hostAccess ?_
  split
  · next w hw =>
    have hop := hwrite (by rw [hw]; exact Walk.noConfusion)
    exact .next (WorkerTurn.walkStep ⟨h, .inr hop⟩ hop w)
  · next hw =>
    have hop := hwrite (by rw [hw]; exact Walk.noConfusion)
    exact WorkerTurn.startDeferredWalk ⟨h, .inr hop⟩ hop
  · next hw => exact h.beginOperation hw

/-! ## All instructions and all steps -/

theorem ChannelInv.exec (h : ChannelInv s) (i : Instr) : Answers (exec i s) ChannelInv := by
  cases i with
  | ior16Data => exact h.execIor16Data
  | iow16Data v => exact h.execIow16Data v
  | ior8Error | ior8SectorCount | ior8SectorNumber | ior8CylLsb | ior8CylMsb | ior8DriveHead | ior8Status2
  | ior8BmCommand | ior8BmReserved | ior8BmStatus | ior8BmUdma | ior8BmPrdptr0 | ior8BmPrdptr1 | ior8BmPrdptr2
  | ior8BmPrdptr3 => exact h.readByte _
  | iow8Feature v | iow8SectorCount v | iow8SectorNumber v | iow8CylLsb v | iow8CylMsb v =>
    exact h.writeRegister rfl rfl rfl rfl rfl
  | iow8DriveHead v => exact h.execIow8DriveHead v
  | ior8Status => exact .hostAccess (.next (ChannelInv.cancelInterrupt h))
  | iow8Command v => exact h.runCommandByte v
  | iow8Output v => exact h.execIow8Output v
  | ctlInvalid offset a => exact h.hostTransaction a (.next (h.accessError a))
  | widthError w offset a => exact h.hostTransaction a (.next (h.accessError a))
  | droppedWrite w offset a => exact .hostAccess (.next h)
  | iow8BmCommand v => exact .hostAccess (h.writeBmCommand v)
  | iow8BmReserved v => exact .hostAccess (.next h)
  | iow8BmStatus v => exact .hostAccess (.next (h.writeBmStatus v))
  | iow8BmUdma v | iow8BmPrdptr0 v | iow8BmPrdptr1 v | iow8BmPrdptr2 v | iow8BmPrdptr3 v =>
    exact .hostAccess (.next (h.withBm h.form.busMaster))
  | bmOtherChannel offset a => exact h.execBmOtherChannel offset a
  | bmMultibyte offset a => exact .hostAccess (h.bmAccess _ a)
  | cfgAlias offset a => exact h.execCfgAlias offset a
  | readSector => exact h.execReadSector
  | writeSector => exact h.execWriteSector
  | packet => exact h.execPacket
  | identifyPacket => exact h.execIdentifyPacket
  | readDma => exact h.execReadDma
  | writeDma => exact h.execWriteDma
  | standbyImmediate => exact h.execStandbyImmediate
  | sleep => exact h.execSleep
  | flushCache => exact h.execFlushCache
  | identify => exact h.execIdentify
  | setFeatures => exact h.execSetFeatures
  | ataUnknown opcode => exact h.execAtaUnknown opcode
  | requestSense alloc => exact h.deliverPacket _ fun _ turn => turn.requestSenseBody alloc
  | inquiry alloc => exact h.deliverPacket _ fun _ turn => turn.inquiryBody alloc
  | modeSense6 pc page alloc => exact h.deliverPacket _ fun _ turn => turn.modeSense6Body pc page alloc
  | modeSense10 pc page alloc => exact h.deliverPacket _ fun _ turn => turn.modeSense10Body pc page alloc
  | readToc msf format track alloc => exact h.deliverPacket _ fun _ turn => turn.readTocBody msf format track alloc
  | readDvdStructure address layer format alloc =>
    exact h.deliverPacket _ fun _ turn => turn.readDvdStructureBody address layer format alloc
  | read10 lba len | read12 lba len => exact h.deliverPacket _ fun _ turn => turn.readBlocksBody lba _
  | readCd lba len sub subch => exact h.deliverPacket _ fun _ turn => turn.readCdBody lba len sub subch
  | pktUnknown opcode => exact h.deliverPacket _ fun _ turn => turn.invalidField
  | prdEntry address count ignored eot => exact h.execPrdEntry address count ignored eot

/-- Settles O9: the host's accesses by `ChannelInv.exec`, the worker's turns by `ChannelInv.workerStep`; the
environment writes nothing the invariant reads. -/
theorem channelInvariantKept : Obligations.ChannelInvariantKept := by
  intro s t h e
  obtain ⟨m, rfl, ⟨i, hi⟩ | hw | ⟨addr, v, rfl⟩ | ⟨d, x, rfl⟩⟩ := step_eq_next e
  · exact h.exec i m hi
  · exact h.workerStep m hw
  · exact h
  · exact h

end Sys2Proof.Machine
end

section
/-!
The queue and the memory as the step sees them (20_memory.md R62 to R64, R75): a request runs its instruction, what is
outside the alias goes to the PCI framework, and guest memory is written by walks only.
-/

namespace Sys2Proof.Machine

/-! ## The request of a step -/

/-- A live block runs the instruction its next request decodes to. -/
theorem step_request {s : State} {f : Format} {bytes : List Byte} {rest : List Input} {i : Instr}
    (live : s.fault = none) (queue : s.inbox = .request f bytes :: rest)
    (decoded : decode s.decodeContext f bytes = .ok i) : step s = popped (exec i s) := by
  unfold step
  simp only [live, queue, decoded]

/-- Settles O4: each outcome of the instruction is the step's, a next state with the request taken. -/
theorem stepRunsDecodedRequest : Obligations.StepRunsDecodedRequest := by
  intro s f bytes rest i live queue decoded
  rw [step_request live queue decoded]
  refine ⟨fun t e => ?_, fun x e => ?_, fun x e => ?_⟩ <;> rw [e] <;> rfl

/-! ## The hand-over to the PCI framework -/

/-- Outside the alias the access is an event, and a read's data are free (40_register_access.md R154). -/
theorem execCfgAlias_outside {s : State} {offset : Byte} (a : Access) (live : s.fault = none)
    (outside : offset.toNat < s.cfg.cfgBmBase ∨ s.cfg.cfgBmBase + 16 ≤ offset.toNat) :
    execCfgAlias offset a s =
      .next (if a.isWrite then s.emit (.framework offset a)
        else (s.emit (.framework offset a)).returnsFree a.size) := by
  have hnot : ¬(s.cfg.cfgBmBase ≤ offset.toNat ∧ offset.toNat < s.cfg.cfgBmBase + 16) := by omega
  rw [execCfgAlias, hostAccess_live _ live, if_neg hnot]

/-- Settles O29: the write is the event alone, the read the event and free data. -/
theorem configOutsideAliasIsFramework : Obligations.ConfigOutsideAliasIsFramework := by
  intro s offset a live outside
  refine ⟨_, execCfgAlias_outside a live outside, ?_⟩
  cases a.isWrite
  · rfl
  · rfl

/-! ## The canonical form -/

/-- Settles O10: a canonical memory is part of the channel's frame. -/
theorem memoryCanonicalKept : Obligations.MemoryCanonicalKept := by
  intro s t hwf e
  obtain ⟨m, h, rfl⟩ := ChannelFrame.step e
  exact h.memory hwf

end Sys2Proof.Machine
end

section
/-!
Guest memory is written by walks only (20_memory.md R64; 43_busmaster_dma.md R247): every shared procedure but the walk
keeps it, and a deferring block answers the kick by a hand-over, so no access of its host runs a walk.
-/

namespace Sys2Proof.Machine

/-- `t` has the guest memory of `s`. -/
structure MemoryKept (s t : State) : Prop where
  mem : t.mem = s.mem

theorem MemoryKept.refl (s : State) : MemoryKept s s := ⟨rfl⟩

theorem MemoryKept.trans {s t u : State} (h : MemoryKept s t) (k : MemoryKept t u) : MemoryKept s u :=
  ⟨k.mem.trans h.mem⟩

/-- Seen from an earlier state with the same memory. -/
theorem MemoryKept.since {s u t : State} (k : MemoryKept u t) (h : u.mem = s.mem) : MemoryKept s t :=
  ⟨k.mem.trans h⟩

theorem MemoryKept.answersSince {s u : State} {r : Result} (k : Answers r (MemoryKept u)) (h : u.mem = s.mem) :
    Answers r (MemoryKept s) := k.mono fun _ m => m.since h

/-! ## The shared procedures -/

section Procedures

variable (s : State)

theorem MemoryKept.raiseInterrupt : MemoryKept s (raiseInterrupt s) := ⟨raiseInterrupt_mem s⟩

theorem MemoryKept.raiseError (c : ErrorClass) : MemoryKept s (raiseError c s) := ⟨raiseError_mem s c⟩

theorem MemoryKept.readBlockAt (lba n : Nat) : MemoryKept s (readBlockAt lba n s).1 := ⟨by rw [readBlockAt_eq]⟩

theorem MemoryKept.writeBlockAt (lba : Nat) (bs : List Byte) : MemoryKept s (writeBlockAt lba bs s).1 :=
  ⟨by rw [writeBlockAt_eq]⟩

theorem MemoryKept.loadUnit : MemoryKept s (loadUnit s).state := by
  unfold Machine.loadUnit
  split
  · have h := MemoryKept.readBlockAt s (makeLogical s.selCfg s.sel) 512
    split
    · next heq =>
      rw [heq] at h
      exact h.trans ⟨rfl⟩
    · next heq =>
      rw [heq] at h
      exact h.trans (.raiseError _ .abort)
  · exact .raiseError s .abort

theorem MemoryKept.storeUnit : MemoryKept s (storeUnit s).state := by
  unfold Machine.storeUnit
  split
  · have h := MemoryKept.writeBlockAt s (makeLogical s.selCfg s.sel) (bufferSlice s.sel.buffer 0 512)
    split
    · next heq =>
      rw [heq] at h
      exact h
    · next heq =>
      rw [heq] at h
      exact h.trans (.raiseError _ .abort)
  · exact .raiseError s .abort

theorem MemoryKept.loadNextCdSector : MemoryKept s (loadNextCdSector s).state := by
  unfold Machine.loadNextCdSector
  have h := MemoryKept.readBlockAt s s.selCd.nextLba.toNat s.selCd.sectorSize
  split
  · next heq =>
    rw [heq] at h
    exact h.trans (.raiseError _ .abort)
  · next heq =>
    rw [heq] at h
    exact h.trans ⟨rfl⟩

/-- Going on after an attempt, where both parts keep the memory. -/
theorem MemoryKept.andThen {s : State} {a : Attempt} (h : MemoryKept s a.state) {k : State → State}
    (hk : ∀ u, MemoryKept u (k u)) : MemoryKept s (a.andThen k) := by
  cases a with
  | done u => exact h.trans (hk u)
  | aborted u => exact h

/-- A write of the drive's registers, then its interrupt. -/
theorem MemoryKept.withDrive_raise (x : Drive) : MemoryKept s (Machine.raiseInterrupt (s.withDrive x)) :=
  (MemoryKept.raiseInterrupt _).since rfl

/-! ## The bodies of the ATA commands -/

theorem MemoryKept.completeCommand : MemoryKept s (completeCommand s) := .withDrive_raise s _

theorem MemoryKept.identifyBody : MemoryKept s (identifyBody s) := 
  (MemoryKept.withDrive_raise _ _).since (s.putBuffer_mem 0 _)

theorem MemoryKept.readSectorBody : MemoryKept s (readSectorBody s) :=
  (MemoryKept.loadUnit s).andThen fun u => .withDrive_raise u _

theorem MemoryKept.writeSectorBody : MemoryKept s (writeSectorBody s) := by
  unfold Machine.writeSectorBody
  split
  · exact ⟨rfl⟩
  · exact .raiseError s .abort

theorem MemoryKept.setFeaturesBody : MemoryKept s (setFeaturesBody s) := by
  unfold Machine.setFeaturesBody
  split
  · exact .completeCommand s
  · exact .raiseError s .abort

theorem MemoryKept.flushCacheBody : MemoryKept s (flushCacheBody s) :=
  (MemoryKept.completeCommand _).since rfl

/-! ## The packet procedures -/

theorem MemoryKept.atapiComplete : MemoryKept s (atapiComplete s) := .withDrive_raise s _

theorem MemoryKept.atapiStartSend (reqlen alloclen unit : Nat) :
    MemoryKept s (atapiStartSend reqlen alloclen unit s) := by
  unfold Machine.atapiStartSend
  dsimp only
  split_ifs
  · exact ⟨rfl⟩
  · exact (MemoryKept.atapiComplete _).since rfl
  · exact (MemoryKept.withDrive_raise _ _).since rfl

theorem MemoryKept.sendFixed (payload : List Byte) (alloclen : Nat) :
    MemoryKept s (sendFixed payload alloclen s) :=
  (MemoryKept.atapiStartSend _ _ _ _).since (s.putBuffer_mem 0 _)

theorem MemoryKept.sendIfDefined (payload : Option (List Byte)) (alloclen : Nat) :
    MemoryKept s (sendIfDefined payload alloclen s) := by
  cases payload with
  | none => exact .raiseError s (.atapi 0x5 0x24)
  | some bs => exact .sendFixed s bs alloclen

theorem MemoryKept.tocOf (msf : Bool) (format : BitVec 4) (track : Byte) :
    MemoryKept s (tocOf msf format track s).1 := by
  unfold Machine.tocOf
  dsimp only
  split <;> exact ⟨rfl⟩

theorem recordCursor_mem (lba : Word) (len ss : Nat) : (recordCursor lba len ss s).mem = s.mem := rfl

theorem armStreamDma_mem (lba : Word) (len ss : Nat) : (armStreamDma lba len ss s).mem = s.mem := rfl

theorem MemoryKept.stubbedPath : MemoryKept s (stubbedPath s) := by
  unfold Machine.stubbedPath
  split <;> exact .raiseError s _

/-! ## The data register -/

theorem MemoryKept.continueSector : MemoryKept s (continueSector s) :=
  (MemoryKept.loadUnit s).andThen fun u => .withDrive_raise u _

theorem MemoryKept.endReadUnit : MemoryKept s (endReadUnit s) := by
  unfold Machine.endReadUnit
  dsimp only
  split_ifs
  · exact ⟨rfl⟩
  · exact ⟨rfl⟩
  · exact (MemoryKept.continueSector _).since rfl

theorem MemoryKept.nextDataBlock : MemoryKept s (nextDataBlock s) := by
  unfold Machine.nextDataBlock
  split
  · exact (MemoryKept.raiseInterrupt _).since rfl
  · exact .refl s

theorem MemoryKept.wrapCursor : MemoryKept s (wrapCursor s) := by
  obtain ⟨-, h⟩ | ⟨-, h⟩ := wrapCursor_cases s <;> rw [h]
  · exact .refl s
  · exact ⟨rfl⟩

theorem MemoryKept.atapiBoundary : MemoryKept s (atapiBoundary s) := by
  unfold Machine.atapiBoundary
  split_ifs
  · exact (MemoryKept.wrapCursor s).trans (.atapiComplete _)
  · exact (MemoryKept.loadNextCdSector s).andThen .nextDataBlock
  · exact .nextDataBlock s

theorem MemoryKept.afterDataRead : MemoryKept s (afterDataRead s) := by
  unfold Machine.afterDataRead
  split_ifs
  · exact (MemoryKept.atapiBoundary _).since rfl
  · exact .endReadUnit s
  · exact ⟨rfl⟩
  · exact .refl s

theorem MemoryKept.endWriteUnit : MemoryKept s (endWriteUnit s) := by
  refine .andThen ((MemoryKept.storeUnit _).since (s.withDrive_mem _)) fun u => ?_
  dsimp only
  split <;> exact (MemoryKept.raiseInterrupt _).since rfl

/-! ## The byte registers -/

theorem MemoryKept.accessError (a : Access) : MemoryKept s (accessError a s) := by
  unfold Machine.accessError
  split <;> exact ⟨rfl⟩

theorem MemoryKept.writeBmStatus (v : Byte) : MemoryKept s (writeBmStatus v s) := by
  unfold Machine.writeBmStatus
  dsimp only
  split <;> exact ⟨rfl⟩

end Procedures

/-! ## Accesses that reach no walk -/

/-- A write that is dropped keeps the memory, so only one that runs counts. -/
theorem MemoryKept.hostWrite {s : State} {r : Result} (h : Answers r (MemoryKept s)) :
    Answers (hostWrite s r) (MemoryKept s) := Answers.hostWrite (.refl s) fun _ => h

theorem MemoryKept.hostTransaction {s : State} (a : Access) {r : Result} (h : Answers r (MemoryKept s)) :
    Answers (hostTransaction a s r) (MemoryKept s) := by
  unfold Machine.hostTransaction
  split
  · exact MemoryKept.hostWrite h
  · exact .hostAccess h

theorem MemoryKept.readByte (s : State) (v : Byte) : Answers (readByte v s) (MemoryKept s) :=
  .hostAccess (.next ⟨rfl⟩)

/-- `Exec` runs only where the command is not handed over (41_ata_commands.md R171). -/
theorem MemoryKept.dispatchCommand {s : State} {v : Byte} {ps : List Protocol} {b : Bool} {run : State → Result}
    (h : (s.cfg.defer && b) = false → ∀ u, Answers (run u) (MemoryKept u)) :
    Answers (dispatchCommand v ps b run s) (MemoryKept s) := fun t e => by
  obtain ⟨-, ⟨-, rfl⟩ | ⟨-, -, rfl⟩ | ⟨-, -, -, rfl⟩ | ⟨-, -, -, -, -, rfl⟩ | ⟨-, -, -, hb, hr⟩⟩ :=
    dispatchCommand_eq_next e
  · exact .refl _
  · exact .raiseError s .absent
  · exact (MemoryKept.raiseError _ .abort).since rfl
  · exact ⟨rfl⟩
  · exact (h hb _ t hr).since rfl

/-- A command whose `Exec` answers one next state. -/
theorem MemoryKept.dispatchBody (s : State) {v : Byte} {ps : List Protocol} {b : Bool} {body : State → State}
    (h : ∀ u, MemoryKept u (body u)) :
    Answers (Machine.dispatchCommand v ps b (fun u => .next (body u)) s) (MemoryKept s) :=
  .dispatchCommand fun _ u => .next (h u)

theorem MemoryKept.deliverPacket {s : State} (bytes : List Byte) {body : State → Result}
    (h : ∀ u, u.cfg = s.cfg → Answers (body u) (MemoryKept u)) :
    Answers (deliverPacket bytes body s) (MemoryKept s) := fun t e => by
  obtain ⟨-, rfl | ⟨-, -, hb⟩⟩ := deliverPacket_eq_next e
  · exact .refl _
  · exact (h (packetReceived bytes s) rfl t hb).since rfl

theorem MemoryKept.checkReady {s : State} {k : State → Result}
    (h : ∀ u, u.cfg = s.cfg → Answers (k u) (MemoryKept u)) : Answers (checkReady s k) (MemoryKept s) := by
  unfold Machine.checkReady
  dsimp only
  split
  · exact .answersSince (h _ rfl) rfl
  · exact .next ((MemoryKept.raiseError _ _).since rfl)

theorem MemoryKept.readTocBody (s : State) (msf : Bool) (format : BitVec 4) (track : Byte) (alloc : Half) :
    Answers (readTocBody msf format track alloc s) (MemoryKept s) :=
  .checkReady fun u _ => .next ((MemoryKept.tocOf u msf format track).trans (.sendIfDefined _ _ _))

theorem MemoryKept.readDvdStructureBody (s : State) (address : Word) (layer format : Byte) (alloc : Half) :
    Answers (readDvdStructureBody address layer format alloc s) (MemoryKept s) :=
  .checkReady fun u _ => .next (.sendIfDefined u _ _)

theorem MemoryKept.execIor16Data (s : State) : Answers (execIor16Data s) (MemoryKept s) := by
  refine .hostAccess ?_
  split
  · exact .next ((MemoryKept.afterDataRead _).since rfl)
  · exact .next ⟨rfl⟩

theorem MemoryKept.execIow8DriveHead (s : State) (v : Byte) : Answers (execIow8DriveHead v s) (MemoryKept s) := by
  refine MemoryKept.hostWrite (.next ?_)
  split <;> exact ⟨rfl⟩

theorem MemoryKept.execIow8Output (s : State) (v : Byte) : Answers (execIow8Output v s) (MemoryKept s) := by
  refine MemoryKept.hostWrite (.next ?_)
  split <;> exact ⟨rfl⟩

theorem MemoryKept.execBmOtherChannel (s : State) (offset : Byte) (a : Access) :
    Answers (execBmOtherChannel offset a s) (MemoryKept s) := by
  refine .hostAccess ?_
  split <;> exact .next ⟨rfl⟩

theorem MemoryKept.execPrdEntry (s : State) (address : Word) (count : Half) (ignored : BitVec 15) (eot : Bool) :
    Answers (execPrdEntry address count ignored eot s) (MemoryKept s) := by
  refine .hostAccess ?_
  split
  · refine .next ?_
    split <;> exact ⟨rfl⟩
  · exact .next (.refl s)
  · exact .next (.refl s)

/-! ## Accesses of a deferring block -/

section Deferring

variable {s : State}

/-- The kick of a deferring block hands the walk over: the worker runs it later (43_busmaster_dma.md R247). -/
theorem MemoryKept.kick (hd : s.cfg.defer = true) (site : KickSite) :
    Answers (kick site s) (MemoryKept s) := fun t e => by
  obtain rfl | ⟨hnot, -⟩ | ⟨-, rfl⟩ | ⟨-, -, m, rfl⟩ := kick_eq_next e
  · exact .refl _
  · rw [hd] at hnot
    cases hnot
  · exact ⟨rfl⟩
  · exact ⟨rfl⟩

/-- A deferrable command is handed over before its `Exec` (41_ata_commands.md R171). -/
theorem MemoryKept.dispatchDeferred (hd : s.cfg.defer = true) {v : Byte} {ps : List Protocol}
    {run : State → Result} : Answers (Machine.dispatchCommand v ps true run s) (MemoryKept s) :=
  .dispatchCommand fun hnot => by simp [hd] at hnot

theorem MemoryKept.runCommandByte (hd : s.cfg.defer = true) (v : Byte) :
    Answers (runCommandByte v s) (MemoryKept s) := by
  unfold Machine.runCommandByte
  split
  · exact .dispatchDeferred hd
  · exact .dispatchDeferred hd
  · exact .dispatchBody s fun _ => ⟨rfl⟩
  · exact .dispatchBody s .identifyBody
  · exact .dispatchDeferred hd
  · exact .dispatchDeferred hd
  · exact .dispatchBody s .completeCommand
  · exact .dispatchBody s .completeCommand
  · exact .dispatchBody s .flushCacheBody
  · exact .dispatchBody s .identifyBody
  · exact .dispatchBody s .setFeaturesBody
  · exact .dispatchBody s fun u => .raiseError u .abort

theorem MemoryKept.startStream (hd : s.cfg.defer = true) (lba : Word) (len ss : Nat) :
    Answers (startStream lba len ss s) (MemoryKept s) := by
  unfold Machine.startStream
  dsimp only
  split
  · have hcfg := ((OwnWork.recordCursor s lba len ss).trans (.armStreamDma _ lba len ss)).cfg
    refine .answersSince (.kick (by rw [hcfg, hd]) .packetWord) ?_
    rw [armStreamDma_mem, recordCursor_mem]
  · exact .next (.andThen ((MemoryKept.loadNextCdSector _).since (recordCursor_mem s lba len ss)) fun u =>
      .atapiStartSend u _ _ _)

theorem MemoryKept.streamRange (hd : s.cfg.defer = true) (lba : Word) (len ss : Nat) :
    Answers (streamRange lba len ss s) (MemoryKept s) := by
  unfold Machine.streamRange
  dsimp only
  split_ifs
  · exact .next (.atapiComplete s)
  · exact .next ((MemoryKept.raiseError _ _).since rfl)
  · exact .answersSince (.startStream (s := deviceCall .getCapacity s) hd lba len ss) rfl

theorem MemoryKept.readBlocksBody (hd : s.cfg.defer = true) (lba : Word) (len : Nat) :
    Answers (readBlocksBody lba len s) (MemoryKept s) :=
  .checkReady fun _ hcfg => .streamRange (hcfg ▸ hd) lba len 2048

theorem MemoryKept.readCdBody (hd : s.cfg.defer = true) (lba : Word) (len : BitVec 24) (sub : Byte)
    (subch : BitVec 3) : Answers (readCdBody lba len sub subch s) (MemoryKept s) :=
  .checkReady fun u hcfg => by
    split
    · exact .next (.stubbedPath u)
    · exact .next (.atapiComplete u)
    · exact .streamRange (hcfg ▸ hd) lba _ _
    · exact .next (.raiseError u _)

theorem MemoryKept.dispatchPacket (hd : s.cfg.defer = true) (p0 p1 p2 p3 p4 p5 p6 p7 p8 p9 p10 : Byte) :
    Answers (dispatchPacket p0 p1 p2 p3 p4 p5 p6 p7 p8 p9 p10 s) (MemoryKept s) := by
  unfold Machine.dispatchPacket
  split
  · exact .next (.sendFixed s _ _)
  · exact .next (.sendFixed s _ _)
  · exact .next (.sendIfDefined s _ _)
  · exact .next (.sendIfDefined s _ _)
  · exact .readTocBody s _ _ _ _
  · exact .readDvdStructureBody s _ _ _ _
  · exact .readBlocksBody hd _ _
  · exact .readBlocksBody hd _ _
  · exact .readCdBody hd _ _ _ _
  · exact .next (.raiseError s _)

theorem MemoryKept.afterDataWrite (hd : s.cfg.defer = true) : Answers (afterDataWrite s) (MemoryKept s) := by
  unfold Machine.afterDataWrite
  split_ifs
  · exact .answersSince (.dispatchPacket (s := s.withDrive _) hd _ _ _ _ _ _ _ _ _ _ _) rfl
  · exact .next (.endWriteUnit s)
  · exact .next (.refl s)

theorem MemoryKept.execIow16Data (hd : s.cfg.defer = true) (v : Half) :
    Answers (execIow16Data v s) (MemoryKept s) := by
  refine MemoryKept.hostWrite ?_
  split
  · exact .answersSince (.afterDataWrite (s := (s.putBuffer _ _).withDrive _) hd) rfl
  · exact .next (.refl s)

theorem MemoryKept.writeBmCommand (hd : s.cfg.defer = true) (v : Byte) :
    Answers (writeBmCommand v s) (MemoryKept s) := by
  unfold Machine.writeBmCommand
  dsimp only
  split_ifs
  · exact .answersSince (.kick (by simpa using hd) (.startWrite v)) rfl
  · exact .next ⟨rfl⟩
  · exact .next ⟨rfl⟩

theorem MemoryKept.bmWriteByte (hd : s.cfg.defer = true) (o : Nat) (v : Byte) :
    Answers (bmWriteByte o v s) (MemoryKept s) := by
  unfold Machine.bmWriteByte
  dsimp only
  split
  · exact .next (.refl s)
  · split
    · exact .writeBmCommand hd v
    · exact .next (.refl s)
    · exact .next (.writeBmStatus s v)
    all_goals exact .next ⟨rfl⟩

/-- The bytes of one access: the parameters stay from byte to byte, so the block defers at each. -/
theorem MemoryKept.bmWriteBytes (hd : s.cfg.defer = true) (bs : List Byte) (o : Nat) :
    Answers (bmWriteBytes o bs s) (MemoryKept s) := by
  induction bs generalizing o s with
  | nil => exact .next (.refl s)
  | cons b bs ih =>
    intro t e
    obtain ⟨m, hm, ht⟩ := andThen_eq_next.mp e
    have hcfg : m.cfg = s.cfg := (OwnWork.bmWriteByte s o b m hm).cfg
    exact (MemoryKept.bmWriteByte hd o b m hm).trans (ih (hcfg ▸ hd) (o + 1) t ht)

theorem MemoryKept.bmAccess (hd : s.cfg.defer = true) (o : Nat) (a : Access) :
    Answers (bmAccess o a s) (MemoryKept s) := by
  unfold Machine.bmAccess
  split
  · exact .bmWriteBytes hd _ o
  · exact .next ⟨rfl⟩

theorem MemoryKept.execCfgAlias (hd : s.cfg.defer = true) (offset : Byte) (a : Access) :
    Answers (execCfgAlias offset a s) (MemoryKept s) := by
  refine .hostAccess ?_
  split
  · exact .bmAccess hd _ a
  · refine .next ?_
    split <;> exact ⟨rfl⟩

end Deferring

/-! ## The instructions -/

/-- An instruction that can start a walk keeps the memory where the block defers; every other one always does. -/
theorem MemoryKept.exec (i : Instr) (s : State) (h : mayStartWalk i = true → s.cfg.defer = true) :
    Answers (exec i s) (MemoryKept s) := by
  cases i with
  | ior16Data => exact .execIor16Data s
  | iow16Data v => exact .execIow16Data (h rfl) v
  | ior8Error | ior8SectorCount | ior8SectorNumber | ior8CylLsb | ior8CylMsb | ior8DriveHead | ior8Status2
  | ior8BmCommand | ior8BmReserved | ior8BmStatus | ior8BmUdma | ior8BmPrdptr0 | ior8BmPrdptr1 | ior8BmPrdptr2
  | ior8BmPrdptr3 => exact .readByte s _
  | iow8Feature v | iow8SectorCount v | iow8SectorNumber v | iow8CylLsb v | iow8CylMsb v =>
    exact MemoryKept.hostWrite (.next ⟨rfl⟩)
  | iow8DriveHead v => exact .execIow8DriveHead s v
  | iow8Output v => exact .execIow8Output s v
  | iow8Command v => exact .runCommandByte (h rfl) v
  | ctlInvalid offset a => exact MemoryKept.hostTransaction a (.next (.accessError s a))
  | widthError w offset a => exact MemoryKept.hostTransaction a (.next (.accessError s a))
  | ior8Status | iow8BmUdma v | iow8BmPrdptr0 v | iow8BmPrdptr1 v | iow8BmPrdptr2 v | iow8BmPrdptr3 v =>
    exact .hostAccess (.next ⟨rfl⟩)
  | droppedWrite w offset a => exact .hostAccess (.next (.refl s))
  | iow8BmCommand v => exact .hostAccess (.writeBmCommand (h rfl) v)
  | iow8BmReserved v => exact .hostAccess (.next (.refl s))
  | iow8BmStatus v => exact .hostAccess (.next (.writeBmStatus s v))
  | bmOtherChannel offset a => exact .execBmOtherChannel s offset a
  | bmMultibyte offset a => exact .hostAccess (.bmAccess (h rfl) _ a)
  | cfgAlias offset a => exact .execCfgAlias (h rfl) offset a
  | readSector => exact .dispatchBody s .readSectorBody
  | writeSector => exact .dispatchBody s .writeSectorBody
  | packet => exact .dispatchBody s fun _ => ⟨rfl⟩
  | identifyPacket | identify => exact .dispatchBody s .identifyBody
  | readDma | writeDma => exact .dispatchDeferred (h rfl)
  | standbyImmediate | sleep => exact .dispatchBody s .completeCommand
  | flushCache => exact .dispatchBody s .flushCacheBody
  | setFeatures => exact .dispatchBody s .setFeaturesBody
  | ataUnknown opcode => exact .dispatchBody s fun u => .raiseError u .abort
  | requestSense alloc | inquiry alloc => exact .deliverPacket _ fun u _ => .next (.sendFixed u _ _)
  | modeSense6 pc page alloc | modeSense10 pc page alloc =>
    exact .deliverPacket _ fun u _ => .next (.sendIfDefined u _ _)
  | readToc msf format track alloc => exact .deliverPacket _ fun u _ => .readTocBody u _ _ _ _
  | readDvdStructure address layer format alloc =>
    exact .deliverPacket _ fun u _ => .readDvdStructureBody u _ _ _ _
  | read10 lba len | read12 lba len => exact .deliverPacket _ fun _ hcfg => .readBlocksBody (hcfg ▸ h rfl) _ _
  | readCd lba len sub subch => exact .deliverPacket _ fun _ hcfg => .readCdBody (hcfg ▸ h rfl) _ _ _ _
  | pktUnknown opcode => exact .deliverPacket _ fun u _ => .next (.raiseError u _)
  | prdEntry address count ignored eot => exact .execPrdEntry s address count ignored eot

/-- Settles O13: either hypothesis leaves no instruction that can start a walk in a block that does not defer. -/
theorem guestMemoryOnlyByWalks : Obligations.GuestMemoryOnlyByWalks := by
  intro i s t h e
  refine (MemoryKept.exec i s (fun may => ?_) t e).mem
  obtain hnot | hd := h
  · rw [may] at hnot
    cases hnot
  · exact hd

end Sys2Proof.Machine
end

section
/-!
Encoding and decoding of transactions (30_encoding.md R90 to R94): a transaction's window, offset and access name one
well-formed instruction, and that instruction encodes to the transaction.
-/

namespace Sys2Proof

/-- `i` is an instruction of channel `ch` and its bytes are those of the transaction. -/
structure Instr.IsTransaction (i : Instr) (ch : Channel) (w : Window) (offset : Byte) (a : Access) : Prop where
  wellFormed : i.wellFormed ch = true
  encodes : encode ch i = (.io, ioBytes w offset a)

open Instr (IsTransaction)

/-! ## Registers -/

/-- Only a byte access reaches the two sides of a byte register. -/
theorem byteRegister_of_size_ne {a : Access} (h : a.size ≠ 1) (read : Instr) (write : Byte → Instr)
    (other : Access → Instr) : byteRegister read write other a = other a := by
  cases a with
  | r8 | w8 v => exact absurd rfl h
  | r16 | r32 | w16 v | w32 v => rfl

theorem dataRegister_of_size_ne {a : Access} (h : a.size ≠ 2) (other : Access → Instr) :
    dataRegister other a = other a := by
  cases a with
  | r16 | w16 v => exact absurd rfl h
  | r8 | r32 | w8 v | w32 v => rfl

/-- What holds of the read side, of the write side and of an access of another size holds of a byte register. -/
theorem byteRegister_induction {P : Instr → Access → Prop} {read : Instr} {write : Byte → Instr}
    {other : Access → Instr} (hread : P read .r8) (hwrite : ∀ v, P (write v) (.w8 v)) (a : Access)
    (hother : a.size ≠ 1 → P (other a) a) : P (byteRegister read write other a) a := by
  cases a with
  | r8 => exact hread
  | w8 v => exact hwrite v
  | r16 | w16 v => exact hother (show 2 ≠ 1 by decide)
  | r32 | w32 v => exact hother (show 4 ≠ 1 by decide)

theorem dataRegister_induction {P : Instr → Access → Prop} {other : Access → Instr} (hread : P .ior16Data .r16)
    (hwrite : ∀ v, P (.iow16Data v) (.w16 v)) (a : Access) (hother : a.size ≠ 2 → P (other a) a) :
    P (dataRegister other a) a := by
  cases a with
  | r16 => exact hread
  | w16 v => exact hwrite v
  | r8 | w8 v => exact hother (show 1 ≠ 2 by decide)
  | r32 | w32 v => exact hother (show 4 ≠ 2 by decide)

/-! ## The command window -/

theorem cmd_offset_cases : ∀ offset : Byte, Window.hasOffset .cmd offset = true →
    offset = 0 ∨ offset = 1 ∨ offset = 2 ∨ offset = 3 ∨ offset = 4 ∨ offset = 5 ∨ offset = 6 ∨ offset = 7 := by
  decide

/-- An access of a size that is not the register's is the width error (20_memory.md R73). -/
theorem decodeCmd_of_size_ne {offset : Byte} {a : Access} (inside : Window.hasOffset .cmd offset = true)
    (h : a.size ≠ legalSize .cmd offset) : decodeCmd offset a = .widthError .cmd offset a := by
  obtain rfl | rfl | rfl | rfl | rfl | rfl | rfl | rfl := cmd_offset_cases offset inside
  · exact dataRegister_of_size_ne h _
  all_goals exact byteRegister_of_size_ne h _ _ _

theorem isTransaction_decodeCmd {offset : Byte} (ch : Channel) (inside : Window.hasOffset .cmd offset = true)
    (a : Access) : IsTransaction (decodeCmd offset a) ch .cmd offset a := by
  have wide (h : a.size ≠ legalSize .cmd offset) : IsTransaction (.widthError .cmd offset a) ch .cmd offset a :=
    ⟨by simp [Instr.wellFormed, inside, h], rfl⟩
  obtain rfl | rfl | rfl | rfl | rfl | rfl | rfl | rfl := cmd_offset_cases offset inside
  · exact dataRegister_induction (P := fun i => IsTransaction i ch .cmd 0) ⟨rfl, rfl⟩ (fun _ => ⟨rfl, rfl⟩) a wide
  all_goals
    exact byteRegister_induction (P := fun i => IsTransaction i ch .cmd _) ⟨rfl, rfl⟩ (fun _ => ⟨rfl, rfl⟩) a wide

/-! ## The control window -/

theorem isTransaction_decodeCtl (ch : Channel) (offset : Byte) (a : Access) :
    IsTransaction (decodeCtl offset a) ch .ctl offset a := by
  by_cases h6 : offset = 6
  · subst h6
    refine byteRegister_induction (P := fun i => IsTransaction i ch .ctl 6) ⟨rfl, rfl⟩ (fun _ => ⟨rfl, rfl⟩) a ?_
    exact fun h => ⟨by simpa [Instr.wellFormed, legalSize] using h, rfl⟩
  · rw [decodeCtl, if_neg h6]
    exact ⟨by simpa [Instr.wellFormed] using h6, rfl⟩

/-! ## The bus-master window -/

/-- The channel's own offsets are the eight from its base on (20_memory.md R61). -/
theorem Channel.toNat_offset (ch : Channel) {k : Nat} (hk : k < 8) :
    (BitVec.ofNat 8 (ch.base + k)).toNat = ch.base + k := by
  have hbase : ch.base ≤ 8 := by cases ch <;> decide
  rw [BitVec.toNat_ofNat]
  omega

theorem Channel.owns_iff {ch : Channel} {offset : Byte} :
    ch.owns offset = true ↔ ∃ k, k < 8 ∧ offset = BitVec.ofNat 8 (ch.base + k) := by
  rw [Channel.owns, decide_eq_true_iff]
  constructor
  · rintro ⟨hlo, hhi⟩
    refine ⟨offset.toNat - ch.base, by omega, BitVec.eq_of_toNat_eq ?_⟩
    rw [ch.toNat_offset (by omega)]
    omega
  · rintro ⟨k, hk, rfl⟩
    rw [ch.toNat_offset hk]
    omega

/-- A byte access at place `k` of the channel's own half is one to the register there (30_encoding.md R93). -/
theorem decodeBm_register (ch : Channel) {k : Nat} (hk : k < 8) {a : Access} (byte : a.size = 1) :
    decodeBm ch (BitVec.ofNat 8 (ch.base + k)) a = decodeBmByte k (BitVec.ofNat 8 (ch.base + k)) a := by
  rw [decodeBm, if_pos byte, if_pos (Channel.owns_iff.mpr ⟨k, hk, rfl⟩), ch.toNat_offset hk, Nat.add_sub_cancel_left]

theorem isTransaction_decodeBmByte (ch : Channel) {k : Nat} (hk : k < 8) {a : Access} (byte : a.size = 1) :
    IsTransaction (decodeBmByte k (BitVec.ofNat 8 (ch.base + k)) a) ch .bm (BitVec.ofNat 8 (ch.base + k)) a := by
  interval_cases k
  all_goals
    exact byteRegister_induction (P := fun i => IsTransaction i ch .bm _) ⟨rfl, rfl⟩ (fun _ => ⟨rfl, rfl⟩) a
      fun wide => absurd byte wide

theorem isTransaction_decodeBm (ch : Channel) (offset : Byte) (a : Access) :
    IsTransaction (decodeBm ch offset a) ch .bm offset a := by
  by_cases byte : a.size = 1
  · by_cases own : ch.owns offset = true
    · obtain ⟨k, hk, rfl⟩ := Channel.owns_iff.mp own
      rw [decodeBm_register ch hk byte]
      exact isTransaction_decodeBmByte ch hk byte
    · rw [decodeBm, if_pos byte, if_neg own]
      exact ⟨by simp [Instr.wellFormed, own, byte], rfl⟩
  · rw [decodeBm, if_neg byte]
    exact ⟨by simpa [Instr.wellFormed] using byte, rfl⟩

/-! ## All windows -/

/-- An offset of the command window is its register, unless the access is a write while a deferred operation is
outstanding (40_register_access.md R130, test 4). -/
theorem decodeTransaction_cmd {offset : Byte} (inside : Window.hasOffset .cmd offset = true) (cx : DecodeContext)
    (a : Access) : decodeTransaction cx .cmd offset a =
      .ok (if cx.busy && a.isWrite then .droppedWrite .cmd offset a else decodeCmd offset a) := by
  simp only [decodeTransaction, inside, Bool.not_true, Bool.false_eq_true, if_false, apply_ite Except.ok]

/-- No instruction is decoded at any other offset (20_memory.md R61). -/
theorem hasOffset_of_decodeTransaction {cx : DecodeContext} {offset : Byte} {a : Access} {i : Instr}
    (h : decodeTransaction cx .cmd offset a = .ok i) : Window.hasOffset .cmd offset = true := by
  by_contra outside
  rw [decodeTransaction, Bool.eq_false_iff.mpr outside] at h
  cases h

theorem decodeTransaction_ctl (cx : DecodeContext) (offset : Byte) (a : Access) : decodeTransaction cx .ctl offset a =
      .ok (if cx.busy && a.isWrite then .droppedWrite .ctl offset a else decodeCtl offset a) := by
  simp only [decodeTransaction, apply_ite Except.ok]

theorem isTransaction_of_decodeTransaction {cx : DecodeContext} {w : Window} {offset : Byte} {a : Access} {i : Instr}
    (h : decodeTransaction cx w offset a = .ok i) : i.IsTransaction cx.channel w offset a := by
  cases w with
  | cfg =>
    cases h
    exact ⟨rfl, rfl⟩
  | bm =>
    cases h
    exact isTransaction_decodeBm _ _ _
  | cmd =>
    have inside := hasOffset_of_decodeTransaction h
    rw [decodeTransaction_cmd inside] at h
    cases h
    split_ifs with drop
    · exact ⟨by simp [Instr.wellFormed, inside, (Bool.and_eq_true_iff.mp drop).2], rfl⟩
    · exact isTransaction_decodeCmd _ inside a
  | ctl =>
    rw [decodeTransaction_ctl] at h
    cases h
    split_ifs with drop
    · exact ⟨(Bool.and_eq_true_iff.mp drop).2, rfl⟩
    · exact isTransaction_decodeCtl _ _ a

/-- Settles O2: the bytes are a window, an offset and an access, and the instruction they name encodes to these. -/
theorem ioBytesHaveOneMeaning : Obligations.IoBytesHaveOneMeaning := by
  intro cx bytes i h
  obtain ⟨w, offset, a, rfl, named⟩ := ioBytes_of_decodeIo h
  obtain ⟨wf, encodes⟩ := isTransaction_of_decodeTransaction named
  exact ⟨wf, encodes⟩

end Sys2Proof
end

section
/-!
Decoding after encoding (30_encoding.md R90 to R93, R102, R113, R116 to R118), format by format: transactions, command
bytes, packets and descriptors.
-/

namespace Sys2Proof

/-! ## Transactions -/

/-- The bytes of a bus-master register decode to the register, on either channel (30_encoding.md R93). -/
theorem decode_bmBytes (cx : DecodeContext) {k : Nat} (hk : k < 8) {a : Access} (byte : a.size = 1) :
    decode cx .io (bmBytes cx.channel k a) = .ok (decodeBmByte k (BitVec.ofNat 8 (cx.channel.base + k)) a) := by
  rw [bmBytes, decode_ioBytes, decodeTransaction, decodeBm_register _ hk byte]

theorem decode_widthError {ch : Channel} {w : Window} {offset : Byte} {a : Access}
    (wf : (Instr.widthError w offset a).wellFormed ch = true) :
    decode ⟨ch, false⟩ .io (ioBytes w offset a) = .ok (.widthError w offset a) := by
  rw [decode_ioBytes]
  cases w with
  | cmd =>
    obtain ⟨inside, wide⟩ : Window.hasOffset .cmd offset = true ∧ a.size ≠ legalSize .cmd offset := by
      simpa [Instr.wellFormed] using wf
    rw [decodeTransaction_cmd inside]
    exact congrArg Except.ok (decodeCmd_of_size_ne inside wide)
  | ctl =>
    obtain ⟨rfl, wide⟩ : offset = 6 ∧ a.size ≠ 1 := by simpa [Instr.wellFormed, legalSize] using wf
    exact congrArg Except.ok (byteRegister_of_size_ne wide _ _ _)
  | bm | cfg => cases wf

theorem decode_droppedWrite {ch : Channel} {w : Window} {offset : Byte} {a : Access}
    (wf : (Instr.droppedWrite w offset a).wellFormed ch = true) :
    decode ⟨ch, true⟩ .io (ioBytes w offset a) = .ok (.droppedWrite w offset a) := by
  rw [decode_ioBytes]
  cases w with
  | cmd =>
    obtain ⟨inside, write⟩ : Window.hasOffset .cmd offset = true ∧ a.isWrite = true := by
      simpa [Instr.wellFormed] using wf
    rw [decodeTransaction_cmd inside, write]
    rfl
  | ctl =>
    have write : a.isWrite = true := wf
    rw [decodeTransaction_ctl, write]
    rfl
  | bm | cfg => cases wf

theorem decode_ctlInvalid {ch : Channel} {offset : Byte} {a : Access}
    (wf : (Instr.ctlInvalid offset a).wellFormed ch = true) :
    decode ⟨ch, false⟩ .io (ioBytes .ctl offset a) = .ok (.ctlInvalid offset a) := by
  have h6 : offset ≠ 6 := by simpa [Instr.wellFormed] using wf
  rw [decode_ioBytes]
  exact congrArg Except.ok (if_neg h6)

theorem decode_bmOtherChannel {cx : DecodeContext} {offset : Byte} {a : Access}
    (wf : (Instr.bmOtherChannel offset a).wellFormed cx.channel = true) :
    decode cx .io (ioBytes .bm offset a) = .ok (.bmOtherChannel offset a) := by
  obtain ⟨foreign, byte⟩ : cx.channel.owns offset = false ∧ a.size = 1 := by simpa [Instr.wellFormed] using wf
  rw [decode_ioBytes, decodeTransaction, decodeBm, if_pos byte, foreign]
  rfl

theorem decode_bmMultibyte {cx : DecodeContext} {offset : Byte} {a : Access}
    (wf : (Instr.bmMultibyte offset a).wellFormed cx.channel = true) :
    decode cx .io (ioBytes .bm offset a) = .ok (.bmMultibyte offset a) := by
  have wide : a.size ≠ 1 := by simpa [Instr.wellFormed] using wf
  rw [decode_ioBytes, decodeTransaction, decodeBm, if_neg wide]

/-! ## Opcodes no row names (30_encoding.md R122) -/

theorem decodeAta_unknown {op : Byte} (h : ataOpcodes.contains op = false) : decodeAta op = .ataUnknown op := by
  simp only [ataOpcodes, List.contains_eq_mem, List.mem_cons, List.not_mem_nil, or_false, decide_eq_false_iff_not,
    not_or] at h
  simp only [decodeAta, h, if_false]

theorem decodePacket_unknown {op : Byte} (h : packetOpcodes.contains op = false)
    (p1 p2 p3 p4 p5 p6 p7 p8 p9 p10 : Byte) :
    decodePacket op p1 p2 p3 p4 p5 p6 p7 p8 p9 p10 = .pktUnknown op := by
  simp only [packetOpcodes, List.contains_eq_mem, List.mem_cons, List.not_mem_nil, or_false, decide_eq_false_iff_not,
    not_or] at h
  simp only [decodePacket, h, if_false]

/-! ## The fields of packets and descriptors -/

/-- The two fields of the page byte of MODE_SENSE (30_encoding.md R117). -/
theorem pageByte_fields (pc : BitVec 2) (page : BitVec 6) :
    (pc ++ page).extractLsb' 6 2 = pc ∧ (pc ++ page).extractLsb' 0 6 = page := by
  revert pc page
  decide

/-- The MSF bit of READ_TOC (30_encoding.md R117). -/
theorem tocFlag_field (msf : Bool) : (0#6 ++ BitVec.ofBool msf ++ 0#1).getLsbD 1 = msf := by
  revert msf
  decide

/-- The format of READ_TOC (30_encoding.md R117). -/
theorem tocFormat_field (format : BitVec 4) : (0#4 ++ format).extractLsb' 0 4 = format := by
  revert format
  decide

/-- The sub-channel selection of READ_CD (30_encoding.md R119). -/
theorem subchannel_field (subch : BitVec 3) : (0#5 ++ subch).extractLsb' 0 3 = subch := by
  revert subch
  decide

/-- The last byte of a descriptor has its flag in bit 7 (30_encoding.md R113). -/
theorem prdFlag_field (eot : Bool) (high : BitVec 7) : (BitVec.ofBool eot ++ high).getLsbD 7 = eot := by
  revert eot high
  decide

/-- The last two bytes of a descriptor hold the fifteen bits the walker ignores (30_encoding.md R113). -/
theorem prdIgnored_field (ignored : BitVec 15) (eot : Bool) :
    (le16 (ignored.extractLsb' 0 8) (BitVec.ofBool eot ++ ignored.extractLsb' 8 7)).extractLsb' 0 15 = ignored := by
  apply BitVec.eq_of_getLsbD_eq
  intro i hi
  simp only [le16, BitVec.getLsbD_append, BitVec.getLsbD_extractLsb']
  by_cases low : i < 8
  · simp [hi, low]
  · simp [hi, low, show i - 8 < 7 by omega, show 8 + (i - 8) = i by omega]

/-- The twelve bytes of a packet decode to the packet (30_encoding.md R116 to R118): the opcode chooses the row, and
each field of the row is read back from its bytes. -/
theorem decodePacketBytes_encodePacket {ch : Channel} {i : Instr} (wf : i.wellFormed ch = true)
    (packet : (encode ch i).1 = .pkt) : decodePacketBytes (encodePacket i) = .ok i := by
  cases i with
  | requestSense alloc | inquiry alloc => rfl
  | modeSense6 pc page alloc =>
    change Except.ok (Instr.modeSense6 ((pc ++ page).extractLsb' 6 2) ((pc ++ page).extractLsb' 0 6) alloc) = _
    rw [(pageByte_fields pc page).1, (pageByte_fields pc page).2]
  | modeSense10 pc page alloc =>
    change Except.ok (Instr.modeSense10 ((pc ++ page).extractLsb' 6 2) ((pc ++ page).extractLsb' 0 6) (be16 _ _)) = _
    rw [(pageByte_fields pc page).1, (pageByte_fields pc page).2, be16_bytes]
  | readToc msf format track alloc =>
    change Except.ok (Instr.readToc (BitVec.getLsbD _ 1) (BitVec.extractLsb' 0 4 _) track (be16 _ _)) = _
    rw [tocFlag_field, tocFormat_field, be16_bytes]
  | readDvdStructure address layer format alloc =>
    change Except.ok (Instr.readDvdStructure (be32 _ _ _ _) layer format (be16 _ _)) = _
    rw [be32_bytes, be16_bytes]
  | read10 lba len =>
    change Except.ok (Instr.read10 (be32 _ _ _ _) (be16 _ _)) = _
    rw [be32_bytes, be16_bytes]
  | read12 lba len =>
    change Except.ok (Instr.read12 (be32 _ _ _ _) (be32 _ _ _ _)) = _
    rw [be32_bytes, be32_bytes]
  | readCd lba len sub subch =>
    change Except.ok (Instr.readCd (be32 _ _ _ _) (be24 _ _ _) sub (BitVec.extractLsb' 0 3 _)) = _
    rw [be32_bytes, be24_bytes, subchannel_field]
  | pktUnknown op =>
    have unnamed : packetOpcodes.contains op = false := by simpa [Instr.wellFormed] using wf
    exact congrArg Except.ok (decodePacket_unknown unnamed _ _ _ _ _ _ _ _ _ _)
  | _ => cases packet

/-! ## All formats -/

/-- Settles O1: each row's bytes carry its fields, and no other row claims them. -/
theorem decodeEncodeAgree : Obligations.DecodeEncodeAgree := by
  intro ch i wf
  cases i with
  | ior16Data | iow16Data v | ior8Error | iow8Feature v | ior8SectorCount | iow8SectorCount v | ior8SectorNumber
  | iow8SectorNumber v | ior8CylLsb | iow8CylLsb v | ior8CylMsb | iow8CylMsb v | ior8DriveHead | iow8DriveHead v
  | ior8Status | iow8Command v | ior8Status2 | iow8Output v | cfgAlias offset a => exact decode_ioBytes _ _ _ _
  | ior8BmCommand | iow8BmCommand v | ior8BmReserved | iow8BmReserved v | ior8BmStatus | iow8BmStatus v | ior8BmUdma
  | iow8BmUdma v | ior8BmPrdptr0 | iow8BmPrdptr0 v | ior8BmPrdptr1 | iow8BmPrdptr1 v | ior8BmPrdptr2
  | iow8BmPrdptr2 v | ior8BmPrdptr3 | iow8BmPrdptr3 v => exact decode_bmBytes ⟨ch, false⟩ (by decide) rfl
  | ctlInvalid offset a => exact decode_ctlInvalid wf
  | bmOtherChannel offset a => exact decode_bmOtherChannel (cx := ⟨ch, false⟩) wf
  | bmMultibyte offset a => exact decode_bmMultibyte (cx := ⟨ch, false⟩) wf
  | widthError w offset a => exact decode_widthError wf
  | droppedWrite w offset a => exact decode_droppedWrite wf
  | readSector | writeSector | packet | identifyPacket | readDma | writeDma | standbyImmediate | sleep | flushCache
  | identify | setFeatures => rfl
  | ataUnknown op => exact congrArg Except.ok (decodeAta_unknown (by simpa [Instr.wellFormed] using wf))
  | requestSense alloc | inquiry alloc | modeSense6 pc page alloc | modeSense10 pc page alloc
  | readToc msf format track alloc | readDvdStructure address layer format alloc | read10 lba len | read12 lba len
  | readCd lba len sub subch | pktUnknown op => exact decodePacketBytes_encodePacket wf rfl
  | prdEntry address count ignored eot =>
    simp only [encode, decode, decodePrd, le32_bytes, le16_bytes, prdIgnored_field, prdFlag_field]

/-- Settles O3: the words are the encodings of the instructions, on the primary channel. -/
theorem writtenWordsDecode : Obligations.WrittenWordsDecode :=
  ⟨decodeEncodeAgree .primary (.iow8Command 0xEC) rfl, decodeEncodeAgree .primary .ior8Status2 rfl,
    decodeEncodeAgree .primary (.iow8BmPrdptr1 0x20) rfl, decodeEncodeAgree .primary .readDma rfl,
    decodeEncodeAgree .primary (.read10 16 1) rfl, decodeEncodeAgree .primary (.prdEntry 0x00201000 0 0 true) rfl⟩

end Sys2Proof
end

section
/-!
The task-file and control registers (40_register_access.md R140 to R152, R155 to R157): what an access decodes to,
what a read returns, what a write leaves alone, and when a write is dropped.
-/

namespace Sys2Proof

/-! ## Decoding -/

/-- A performed access of the command window is one of its register (40_register_access.md R130). -/
theorem decode_cmd_performed {cx : DecodeContext} {offset : Byte} {a : Access}
    (inside : Window.hasOffset .cmd offset = true) (performed : (cx.busy && a.isWrite) = false) :
    decode cx .io (ioBytes .cmd offset a) = .ok (decodeCmd offset a) := by
  rw [decode_ioBytes, decodeTransaction_cmd inside, performed]
  rfl

theorem decode_ctl_performed {cx : DecodeContext} {offset : Byte} {a : Access}
    (performed : (cx.busy && a.isWrite) = false) :
    decode cx .io (ioBytes .ctl offset a) = .ok (decodeCtl offset a) := by
  rw [decode_ioBytes, decodeTransaction_ctl, performed]
  rfl

/-- A byte read of a command register, whether or not a deferred operation is outstanding. -/
theorem decode_cmd_read (cx : DecodeContext) (offset : Byte) (inside : Window.hasOffset .cmd offset = true) :
    decode cx .io [offset, 0x00, 0x01] = .ok (decodeCmd offset .r8) :=
  decode_cmd_performed (a := .r8) inside (Bool.and_false _)

/-- A byte write of a command register with no deferred operation outstanding. -/
theorem decode_cmd_write {cx : DecodeContext} (free : cx.busy = false) (offset v : Byte)
    (inside : Window.hasOffset .cmd offset = true) :
    decode cx .io [offset, 0x80, 0x01, v] = .ok (decodeCmd offset (.w8 v)) := by
  have high : ioHighByte .cmd true = 0x80 := rfl
  have bytes : ioBytes .cmd offset (.w8 v) = [offset, 0x80, 0x01, v] := congrArg (offset :: · :: [0x01, v]) high
  rw [← bytes]
  exact decode_cmd_performed inside (by rw [free]; rfl)

/-- A write of the two register windows during a deferred operation (40_register_access.md R130, test 4). -/
theorem decode_write_busy {cx : DecodeContext} {w : Window} {offset : Byte} {a : Access}
    (register : (w = .cmd ∧ offset.toNat < 8) ∨ w = .ctl) (write : a.isWrite = true) (busy : cx.busy = true) :
    decode cx .io (ioBytes w offset a) = .ok (.droppedWrite w offset a) := by
  rw [decode_ioBytes]
  obtain ⟨rfl, inside⟩ | rfl := register
  · rw [decodeTransaction_cmd (decide_eq_true inside), busy, write]
    rfl
  · rw [decodeTransaction_ctl, busy, write]
    rfl

/-- A read decodes alike whether or not a deferred operation is outstanding. -/
theorem decode_read_busy (ch : Channel) (w : Window) (offset : Byte) {a : Access} (read : a.isWrite = false)
    (b : Bool) :
    decode { channel := ch, busy := b } .io (ioBytes w offset a) =
      decode { channel := ch, busy := false } .io (ioBytes w offset a) := by
  rw [decode_ioBytes, decode_ioBytes]
  cases w with
  | cfg | bm => rfl
  | cmd => simp only [decodeTransaction, read, Bool.and_false]
  | ctl => simp only [decodeTransaction, read, Bool.and_false]

namespace Machine

variable {s : State}

/-! ## Reads and writes of one register -/

theorem readByte_live (v : Byte) (live : s.fault = none) : readByte v s = .next (s.returns (v.setWidth 32)) :=
  hostAccess_live _ live

/-- A write of the register windows is performed where the block accepts one (70_reset_and_hazards.md R321). -/
theorem hostWrite_performed (accepting : Accepting s) (r : Result) : hostWrite s r = r := by
  obtain ⟨live, idle⟩ := accepting
  exact hostWrite_accepting r live idle

/-- A write of a register of the selected drive that is performed. -/
theorem writeRegister_accepting (x : Drive) (accepting : Accepting s) :
    hostWrite s (.next (s.withDrive x)) = .next (s.withDrive x) := hostWrite_performed accepting _

/-- An abort leaves the block live. -/
@[simp] theorem raiseError_abort_fault (s : State) : (raiseError .abort s).fault = s.fault := by simp [raiseError]

/-- A raise that no gate holds back is pending. -/
theorem raiseInterrupt_pending (free : interruptGated s = false) : (raiseInterrupt s).irqPending = true := by
  simp [raiseInterrupt, free]

/-- A command reaches its `Exec` on an installed drive of its protocol, unless it is handed over. -/
theorem dispatchCommand_runs {v : Byte} {ps : List Protocol} {b : Bool} {run : State → Result}
    (accepting : Accepting s) (installed : s.selCfg.installed = true) (known : ps.contains s.selCfg.protocol = true)
    (immediate : (s.cfg.defer && b) = false) : dispatchCommand v ps b run s = run (acceptCommand v s) := by
  have hcfg : (acceptCommand v s).selCfg = s.selCfg := rfl
  have hdefer : (acceptCommand v s).cfg = s.cfg := rfl
  simp only [dispatchCommand, hostWrite_performed accepting, installed, hcfg, known, hdefer, immediate,
    Bool.not_true, Bool.false_eq_true, if_false]

/-- IDENTIFY answers with the data status and one interrupt (41_ata_commands.md R177). -/
theorem execIdentify_raises (accepting : AcceptingCommand s .ata) (free : interruptGated s = false) :
    ∃ t, exec .identify s = .next t ∧ t.fault = none ∧ t.sel.status = 0x48 ∧ t.irqPending = true := by
  obtain ⟨⟨live, idle⟩, installed, protocol⟩ := accepting
  refine ⟨identifyBody (acceptCommand 0xEC s),
    dispatchCommand_runs (v := 0xEC) (ps := [.ata]) (run := fun u => .next (identifyBody u)) ⟨live, idle⟩ installed
      (by rw [protocol]; rfl) (Bool.and_false _), ?_, ?_, ?_⟩
  · simpa [identifyBody, acceptCommand] using live
  · simp [identifyBody, statusData]
  · refine raiseInterrupt_pending ?_
    simpa [interruptGated, acceptCommand] using free

/-- Settles O14: reads of one register; the examples take the status of an abort and of IDENTIFY. -/
theorem errorAndStatus2Reads : Obligations.ErrorAndStatus2Reads := by
  have reads (s : State) (live : Live s) :
      exec .ior8Error s = .next { s with rdata := s.sel.error.setWidth 32 } ∧
        exec .ior8Status2 s = .next { s with rdata := s.sel.status.setWidth 32 } :=
    ⟨readByte_live _ live, readByte_live _ live⟩
  refine ⟨fun cx => ⟨decode_cmd_read cx 1 rfl, decode_ctl_performed (offset := 6) (a := .r8) (Bool.and_false _)⟩, reads,
    ?_, ?_⟩
  · intro s live
    have h := (reads (raiseError .abort s) ((raiseError_abort_fault s).trans live)).1
    rwa [raiseError_abort_sel] at h
  · intro s accepting free
    obtain ⟨t, e, live, status, pending⟩ := execIdentify_raises accepting free
    have h := (reads t live).2
    rw [status] at h
    exact ⟨t, e, h, pending⟩

/-- Settles O15: reads and writes of one register; each half of the cylinder keeps the other. -/
theorem sectorAndCylinderRegisters : Obligations.SectorAndCylinderRegisters := by
  refine ⟨fun cx => ⟨decode_cmd_read cx 3 rfl, decode_cmd_read cx 4 rfl, decode_cmd_read cx 5 rfl⟩,
    fun cx v free => ⟨decode_cmd_write free 3 v rfl, decode_cmd_write free 4 v rfl, decode_cmd_write free 5 v rfl⟩,
    fun s live => ⟨readByte_live _ live, readByte_live _ live, readByte_live _ live⟩,
    fun s v accepting => ⟨writeRegister_accepting _ accepting, writeRegister_accepting _ accepting,
      writeRegister_accepting _ accepting⟩, fun s accepting => ?_⟩
  have low : byteOf (byteOf s.sel.cylinder 1 ++ (0x00 : Byte) : Half) 0 = 0 := (byteOf_le16 _ _).1
  refine ⟨_, writeRegister_accepting _ accepting, ?_⟩
  rw [exec, execIow8CylMsb, writeRegister_accepting (s := s.withDrive _) _ accepting, State.withDrive_withDrive,
    State.withDrive_sel, low]
  rfl

/-- Settles O16: the registers are storage; the drive bit of a head is bit 4 of what is read. -/
theorem countFeatureAndHeadRegisters : Obligations.CountFeatureAndHeadRegisters := by
  refine ⟨fun s live => ⟨readByte_live _ live, readByte_live _ live⟩,
    fun s v accepting => ⟨writeRegister_accepting _ accepting, writeRegister_accepting _ accepting⟩,
    fun s v accepting => ?_, fun s live kept => ⟨_, readByte_live _ live, ?_⟩⟩
  · rw [exec, execIor8Error, State.withDrive_sel]
    exact readByte_live _ accepting.1
  · rw [← kept, driveSelected, State.returns_rdata, BitVec.getLsbD_setWidth]
    generalize s.sel.head.getLsbD 4 = b
    cases b <;> rfl

/-- Settles O17: the head is written, then the newly selected drive refreshed, as one update of its slot. -/
theorem driveHeadSelects : Obligations.DriveHeadSelects := by
  refine ⟨fun cx v free => decode_cmd_write free 6 v rfl, fun s v accepting => ?_⟩
  refine (hostWrite_performed accepting _).trans (congrArg Host.Outcome.next ?_)
  change (if (s.cfg.drives.get (driveSelected v)).installed = true then _ else _) = _
  change _ = { s with
    selectedDrive := driveSelected v
    drives := s.drives.set (driveSelected v)
      (if (s.cfg.drives.get (driveSelected v)).installed = true then _ else _) }
  split
  · rw [State.withDrive_withDrive, State.withDrive_sel]
    rfl
  · rw [raiseError, State.withDrive_withDrive, State.withDrive_sel]
    rfl

/-- Settles O18: the read is not held back by BSY; the interrupt of IDENTIFY is the example. -/
theorem statusReadCancelsInterrupt : Obligations.StatusReadCancelsInterrupt := by
  have reads (s : State) (live : Live s) :
      exec .ior8Status s = .next (cancelInterrupt (s.returns (s.sel.status.setWidth 32))) := hostAccess_live _ live
  refine ⟨fun cx => decode_cmd_read cx 7 rfl, reads, fun s accepting free => ?_⟩
  obtain ⟨t, e, live, status, pending⟩ := execIdentify_raises accepting free
  refine ⟨t, _, e, pending, reads t live, ?_, rfl⟩
  rw [status]
  rfl

/-! ## The software reset -/

/-- Each slot takes its reset values but for the control byte, one slot after the other; the buffer's content is
free (log 2). -/
theorem softwareReset_registers (s : State) (d : DriveId) :
    { (softwareReset s).drives.get d with buffer := [] } =
      { Drive.reset (s.cfg.drives.get d) d with
        buffer := [], outputControl := (s.drives.get d).outputControl } := by
  cases d with
  | master => rfl
  | slave => rfl

/-- Settles O20: the written control byte is the one the reset keeps. -/
theorem outputWriteAndSoftwareReset : Obligations.OutputWriteAndSoftwareReset := by
  intro s v accepting
  have written : exec (.iow8Output v) s =
      .next (if resetRequested v then softwareReset (s.withDrive { s.sel with outputControl := v })
        else s.withDrive { s.sel with outputControl := v }) := hostWrite_performed accepting _
  refine ⟨fun keep => ?_, fun reset => ?_⟩
  · rw [written, resetRequested, keep]
    rfl
  · rw [written, resetRequested, reset]
    refine ⟨_, rfl, rfl, fun d => (softwareReset_registers _ d).trans ?_⟩
    by_cases selected : d = s.selectedDrive
    · rw [if_pos selected, selected, State.withDrive_drives, Pair.get_set_same]
      rfl
    · rw [if_neg selected, State.withDrive_other s _ selected]
      rfl

/-! ## The errors of an access -/

theorem hostTransaction_performed {a : Access} (r : Result) (live : s.fault = none)
    (free : a.isWrite = true → s.slot.op = .idle) : hostTransaction a s r = r := by
  unfold hostTransaction
  split
  · next write => exact hostWrite_accepting r live (free write)
  · exact hostAccess_live r live

/-- Settles O21: both instructions are the access error, a read with free data. -/
theorem accessErrorsSetErr : Obligations.AccessErrorsSetErr := by
  intro w offset a s live free e i hi
  have answer : exec i s = .next (accessError a s) := by
    obtain rfl | rfl := hi
    · exact hostTransaction_performed _ live free
    · exact hostTransaction_performed _ live free
  refine ⟨_, answer, ?_⟩
  unfold accessError
  cases a.isWrite
  · rfl
  · rfl

/-! ## Writes during a deferred operation -/

/-- A command byte is a command behind the dispatcher, which drops it. -/
theorem runCommandByte_dropped (v : Byte) (live : s.fault = none) (busy : s.slot.op ≠ .idle) :
    runCommandByte v s = .next s := by
  unfold runCommandByte
  split <;> exact hostWrite_dropped _ live busy

/-- Every write to the register windows stands behind the test for a deferred operation. -/
theorem exec_registerWrite_dropped {i : Instr} (write : isRegisterWrite i = true) (live : s.fault = none)
    (busy : s.slot.op ≠ .idle) : exec i s = .next s := by
  cases i with
  | iow16Data v | iow8Feature v | iow8SectorCount v | iow8SectorNumber v | iow8CylLsb v | iow8CylMsb v
  | iow8DriveHead v | iow8Output v => exact hostWrite_dropped _ live busy
  | iow8Command v => exact runCommandByte_dropped v live busy
  | ctlInvalid offset a =>
    exact (if_pos (show a.isWrite = true from write)).trans (hostWrite_dropped _ live busy)
  | widthError w offset a =>
    exact (if_pos (show a.isWrite = true from write)).trans (hostWrite_dropped _ live busy)
  | droppedWrite w offset a => exact hostAccess_live _ live
  | readSector | writeSector | packet | identifyPacket | readDma | writeDma | standbyImmediate | sleep | flushCache
  | identify | setFeatures | ataUnknown op => exact hostWrite_dropped _ live busy
  | requestSense alloc | inquiry alloc | modeSense6 pc page alloc | modeSense10 pc page alloc
  | readToc msf format track alloc | readDvdStructure address layer format alloc | read10 lba len | read12 lba len
  | readCd lba len sub subch | pktUnknown op => exact hostWrite_dropped _ live busy
  | _ => cases write

/-- Settles O22: instructions by the dropped write of each, requests by their decoding to the dropped write. -/
theorem busyWritesAreDropped : Obligations.BusyWritesAreDropped := by
  refine ⟨fun i s write live busy => exec_registerWrite_dropped write live busy,
    fun w offset a s live => hostAccess_live _ live, fun w offset a rest s register write live busy queue => ?_,
    fun ch w offset a read => decode_read_busy ch w offset read true⟩
  have decoded := decode_write_busy (cx := s.decodeContext) register write (by simpa [State.decodeContext, slotBusy])
  have dropped : exec (.droppedWrite w offset a) s = .next s := hostAccess_live _ live
  rw [step_request live queue decoded, dropped]
  change Host.Outcome.next s.pop = _
  rw [State.pop, queue]
  rfl

end Machine
end Sys2Proof
end

section
/-!
The data register (40_register_access.md R131 to R135, R137, R139): an item inside a unit moves the cursor alone, and
each end of a unit is written out as one update of the state.
-/

namespace Sys2Proof.Machine

variable {s : State}

/-! ## Units -/

/-- The advance of the task file writes the address registers only (41_ata_commands.md R173). -/
theorem incAddress_eq (c : DriveConfig) (x : Drive) :
    incAddress c x = { x with
      sectorNumber := (incAddress c x).sectorNumber
      cylinder := (incAddress c x).cylinder
      head := (incAddress c x).head } := by
  unfold incAddress
  dsimp only
  split_ifs <;> rfl

theorem unitAddressable_iff :
    unitAddressable s = true ↔
      addressOk s.selCfg s.sel = true ∧ makeLogical s.selCfg s.sel < s.selCfg.capacity := by
  simp [unitAddressable]

/-- A block call leaves the drive's registers and the parameters. -/
theorem readBlockAt_frame (lba n : Nat) (s : State) :
    (readBlockAt lba n s).1.sel = s.sel ∧ (readBlockAt lba n s).1.cfg = s.cfg ∧
      (readBlockAt lba n s).1.selCd = s.selCd := by
  have h := view_readBlockAt s lba n
  simp only [State.view, Prod.mk.injEq] at h
  obtain ⟨hcfg, -, hsel, hcd, -⟩ := h
  exact ⟨hsel, hcfg, hcd⟩

/-- A block that is read lies in the buffer from position 0 on, the cursor before it (41_ata_commands.md R174). -/
theorem loadUnit_read {bs : List Byte} (addressable : unitAddressable s = true)
    (block : (readBlockAt (makeLogical s.selCfg s.sel) 512 s).2 = some bs) :
    loadUnit s = .done ((readBlockAt (makeLogical s.selCfg s.sel) 512 s).1.withDrive { s.sel with
      buffer := bufferPut s.cfg.maxBlock s.sel.buffer 0 bs, sectorPos := 0, unitSize := 512 }) := by
  obtain ⟨hsel, hcfg, -⟩ := readBlockAt_frame (makeLogical s.selCfg s.sel) 512 s
  rw [loadUnit, if_pos addressable]
  generalize readBlockAt (makeLogical s.selCfg s.sel) 512 s = r at block hsel hcfg
  obtain ⟨u, o⟩ := r
  cases block
  dsimp only at hsel hcfg
  simp only [State.putBuffer, State.withDrive_sel, State.withDrive_withDrive, hsel, hcfg]

theorem loadUnit_short (addressable : unitAddressable s = true)
    (short : (readBlockAt (makeLogical s.selCfg s.sel) 512 s).2 = none) :
    loadUnit s = .aborted (raiseError .abort (readBlockAt (makeLogical s.selCfg s.sel) 512 s).1) := by
  rw [loadUnit, if_pos addressable]
  generalize readBlockAt (makeLogical s.selCfg s.sel) 512 s = r at short
  obtain ⟨u, o⟩ := r
  cases short
  rfl

theorem loadUnit_outside (outside : ¬unitAddressable s = true) : loadUnit s = .aborted (raiseError .abort s) := by
  rw [loadUnit, if_neg outside]

/-- The block of the buffer goes to the device (41_ata_commands.md R174). -/
theorem storeUnit_eq (addressable : unitAddressable s = true) :
    storeUnit s =
      if (writeBlockAt (makeLogical s.selCfg s.sel) (bufferSlice s.sel.buffer 0 512) s).2 = true then
        .done (writeBlockAt (makeLogical s.selCfg s.sel) (bufferSlice s.sel.buffer 0 512) s).1
      else
        .aborted (raiseError .abort
          (writeBlockAt (makeLogical s.selCfg s.sel) (bufferSlice s.sel.buffer 0 512) s).1) := by
  rw [storeUnit, if_pos addressable]
  obtain ⟨u, o⟩ := writeBlockAt (makeLogical s.selCfg s.sel) (bufferSlice s.sel.buffer 0 512) s
  cases o <;> rfl

theorem storeUnit_outside (outside : ¬unitAddressable s = true) : storeUnit s = .aborted (raiseError .abort s) := by
  rw [storeUnit, if_neg outside]

/-! ## Reads -/

/-- The state after an item has been returned and the cursor moved past it (40_register_access.md R131). -/
def itemReturned (s : State) : State :=
  { s.withDrive { s.sel with sectorPos := s.sel.sectorPos + 2 } with
    rdata := (bufferByte s.sel.buffer (s.sel.sectorPos + 1) ++ bufferByte s.sel.buffer s.sel.sectorPos).setWidth 32 }

theorem itemReturned_sel (s : State) : (itemReturned s).sel = { s.sel with sectorPos := s.sel.sectorPos + 2 } :=
  s.withDrive_sel _

/-- In an open read phase the item is returned, and the rest is what the moved cursor leads to. -/
theorem execIor16Data_open (live : s.fault = none) (reading : s.sel.state = .pioRead)
    (free : s.sel.status.getLsbD 7 = false) : execIor16Data s = .next (afterDataRead (itemReturned s)) := by
  have hopen : dataReadOpen s = true := by
    rw [dataReadOpen, isBusy, reading, free]
    rfl
  rw [execIor16Data, hostAccess_live _ live, if_pos hopen]
  rfl

/-- Inside a unit of an ATA command nothing follows. -/
theorem afterDataRead_inside (ata : s.sel.command ≠ 0xA0) (inside : s.sel.sectorPos < s.sel.unitSize) :
    afterDataRead s = s := by
  rw [afterDataRead, if_neg ata, if_neg (Nat.not_le.mpr inside)]

theorem afterDataRead_oneUnit (ata : s.sel.command ≠ 0xA0) (single : s.sel.command ≠ 0x20)
    (ended : s.sel.unitSize ≤ s.sel.sectorPos) : afterDataRead s = endOneUnit s := by
  rw [afterDataRead, if_neg ata, if_pos ended, if_neg single]

theorem afterDataRead_sector (sectors : s.sel.command = 0x20) (ended : s.sel.unitSize ≤ s.sel.sectorPos) :
    afterDataRead s = endReadUnit s := by
  rw [afterDataRead, if_neg (by rw [sectors]; decide), if_pos ended, if_pos sectors]

/-- Settles O30: inside the unit the item is all. -/
theorem dataReadInsideUnit : Obligations.DataReadInsideUnit := by
  intro s live reading free ata inside
  refine (execIor16Data_open live reading free).trans ?_
  rw [afterDataRead_inside (by rwa [itemReturned_sel]) (by rwa [itemReturned_sel])]
  rfl

/-- Settles O31: at the unit's end the drive is ready and idle. -/
theorem identifyDataEnds : Obligations.IdentifyDataEnds := by
  intro s live reading free ata single ended
  refine (execIor16Data_open live reading free).trans ?_
  rw [afterDataRead_oneUnit (by rwa [itemReturned_sel]) (by rwa [itemReturned_sel]) (by rwa [itemReturned_sel]),
    endOneUnit, itemReturned_sel]
  congr 1
  simp [itemReturned, State.withDrive, statusReady]

/-- Settles O34: with the phase closed the write is ignored, and the read's data and their counter are free. -/
theorem closedDataRegister : Obligations.ClosedDataRegister := by
  refine ⟨fun s live closed => ⟨s.returnsFree 2, ?_, rfl⟩, fun s v live closed => ?_⟩
  · have hclosed : ¬dataReadOpen s = true := by simpa [dataReadOpen, isBusy] using closed
    exact (hostAccess_live _ live).trans (if_neg hclosed)
  · have hclosed : ¬dataWriteOpen s = true := by simpa [dataWriteOpen, isBusy] using closed
    refine (congrArg (hostWrite s) (if_neg hclosed)).trans ?_
    by_cases idle : s.slot.op = .idle
    · exact hostWrite_accepting _ live idle
    · exact hostWrite_dropped _ live idle

/-! ## The end of a unit of READ_SECTOR -/

theorem incAddress_sectorCount (c : DriveConfig) (x : Drive) : (incAddress c x).sectorCount = x.sectorCount := by
  rw [incAddress_eq]

theorem incAddress_buffer (c : DriveConfig) (x : Drive) : (incAddress c x).buffer = x.buffer := by
  rw [incAddress_eq]

theorem nextUnit_eq (s : State) :
    nextUnit s = s.withDrive { incAddress s.selCfg s.sel with sectorCount := s.sel.sectorCount - 1 } := by
  rw [← incAddress_sectorCount s.selCfg s.sel]
  rfl

/-- The registers after a unit's last item: the cursor back at 0, the next block addressed, one block fewer left. -/
def unitAdvanced (s : State) : Drive :=
  { incAddress s.selCfg { s.sel with sectorPos := 0 } with sectorCount := s.sel.sectorCount - 1 }

/-- The state after a unit's last item has been returned (40_register_access.md R133). -/
def unitReturned (s : State) : State :=
  { s.withDrive (unitAdvanced s) with
    rdata := (bufferByte s.sel.buffer (s.sel.sectorPos + 1) ++ bufferByte s.sel.buffer s.sel.sectorPos).setWidth 32 }

theorem unitReturned_sel (s : State) : (unitReturned s).sel = unitAdvanced s := s.withDrive_sel _

theorem nextUnit_itemReturned (s : State) :
    nextUnit ((itemReturned s).withDrive { (itemReturned s).sel with sectorPos := 0 }) = unitReturned s := by
  rw [nextUnit_eq, State.withDrive_withDrive, State.withDrive_sel, itemReturned_sel]
  simp [itemReturned, unitReturned, unitAdvanced, State.withDrive]
  rfl

/-- What follows the last item of a unit of READ_SECTOR: the end of the command, a hand-over or a load. -/
theorem endReadUnit_itemReturned (s : State) :
    endReadUnit (itemReturned s) =
      if s.sel.sectorCount = 1 then
        (unitReturned s).withDrive { unitAdvanced s with status := statusReady, state := .idle }
      else if s.cfg.defer then deferContinue (unitReturned s)
      else continueSector (unitReturned s) := by
  have hcount : (unitAdvanced s).sectorCount = 0 ↔ s.sel.sectorCount = 1 := sub_eq_zero
  have hdefer : (unitReturned s).cfg = s.cfg := rfl
  unfold endReadUnit
  simp only [nextUnit_itemReturned, unitReturned_sel, hcount, hdefer]

/-- Settles O32: the count decides between the end, the hand-over and the load, and the load ends as `LoadUnit` does. -/
theorem readSectorUnitBoundary : Obligations.ReadSectorUnitBoundary := by
  intro s live reading free sectors ended x m lba ok r
  have answer : exec .ior16Data s = .next (endReadUnit (itemReturned s)) := by
    refine (execIor16Data_open live reading free).trans ?_
    rw [afterDataRead_sector (by rwa [itemReturned_sel]) (by rwa [itemReturned_sel])]
  have last (h : s.sel.sectorCount = 1) :
      exec .ior16Data s = .next (m.withDrive { x with status := 0x40, state := .idle }) := by
    rw [answer, endReadUnit_itemReturned, if_pos h]
    rfl
  have handOver (h : s.sel.sectorCount ≠ 1) (hd : s.cfg.defer = true) :
      exec .ior16Data s = .next (deferContinue m) := by
    rw [answer, endReadUnit_itemReturned, if_neg h, if_pos hd]
    rfl
  have load (h : s.sel.sectorCount ≠ 1) (hd : s.cfg.defer = false) :
      exec .ior16Data s = .next (continueSector m) := by
    rw [answer, endReadUnit_itemReturned, if_neg h, hd]
    rfl
  have hsel : m.sel = x := unitReturned_sel s
  have addressable : unitAddressable m = true ↔ ok := by
    rw [unitAddressable_iff, hsel]
    rfl
  have hread : readBlockAt (makeLogical m.selCfg m.sel) 512 m = r := by
    rw [hsel]
    rfl
  refine ⟨last, fun h hd => ⟨_, handOver h hd, ?_⟩, fun h hd out => ?_, fun h hd inside short => ?_,
    fun bs h hd inside block => ?_⟩
  · rw [deferContinue, pushSlot, hsel]
    rfl
  · rw [load h hd, continueSector, loadUnit_outside (mt addressable.mp out)]
    rfl
  · rw [load h hd, continueSector, loadUnit_short (addressable.mpr inside) (by rwa [hread]), hread]
    rfl
  · have hbuffer : x.buffer = s.sel.buffer := incAddress_buffer _ _
    rw [load h hd, continueSector, loadUnit_read (addressable.mpr inside) (by rwa [hread]), hread, hsel, hbuffer]
    simp only [Attempt.andThen, State.withDrive_sel, State.withDrive_withDrive]
    rfl

/-! ## The boundaries of packet data -/

/-- The state after an item of a packet's data has been returned: the three counters moved by 2
(40_register_access.md R131). -/
def packetItemReturned (s : State) : State :=
  { (s.withDrive { s.sel with sectorPos := s.sel.sectorPos + 2, drqPos := s.sel.drqPos + 2 }).withCd
      { s.selCd with remainingBytes := s.selCd.remainingBytes - 2 } with
    rdata := (bufferByte s.sel.buffer (s.sel.sectorPos + 1) ++ bufferByte s.sel.buffer s.sel.sectorPos).setWidth 32 }

theorem packetItemReturned_sel (s : State) : (packetItemReturned s).sel =
    { s.sel with sectorPos := s.sel.sectorPos + 2, drqPos := s.sel.drqPos + 2 } := s.withDrive_sel _

theorem packetItemReturned_selCd (s : State) : (packetItemReturned s).selCd =
    { s.selCd with remainingBytes := s.selCd.remainingBytes - 2 } := s.withCd_selCd _

theorem afterDataRead_packet (packet : s.sel.command = 0xA0) :
    afterDataRead (itemReturned s) = atapiBoundary (packetItemReturned s) := by
  have hcommand : (itemReturned s).sel.command = 0xA0 := by rwa [itemReturned_sel]
  rw [afterDataRead, if_pos hcommand, itemReturned_sel]
  simp [itemReturned, packetItemReturned, State.withDrive, State.withCd]
  rfl

/-- The next data block is announced in one update of the registers. -/
theorem nextDataBlock_eq (s : State) :
    nextDataBlock s =
      if s.sel.cylinder.toNat ≤ s.sel.drqPos then
        raiseInterrupt (s.withDrive { s.sel with
          drqPos := 0, cylinder := BitVec.ofNat 16 (min s.sel.cylinder.toNat s.selCd.remainingBytes) })
      else s := by
  simp only [nextDataBlock, withByteCount, State.withDrive_sel, State.withDrive_selCd, State.withDrive_withDrive]

/-- A sector that is read lies in the buffer, the cursor before it, and the sequence moves on by one
(42_atapi_packet.md R216). -/
theorem loadNextCdSector_read {bs : List Byte}
    (block : (readBlockAt s.selCd.nextLba.toNat s.selCd.sectorSize s).2 = some bs) :
    loadNextCdSector s = .done
      (((readBlockAt s.selCd.nextLba.toNat s.selCd.sectorSize s).1.withDrive { s.sel with
        buffer := bufferPut s.cfg.maxBlock s.sel.buffer 0 bs, sectorPos := 0, unitSize := s.selCd.sectorSize }).withCd
        { s.selCd with
          nextLba := s.selCd.nextLba + 1, remainingSectors := s.selCd.remainingSectors - 1 }) := by
  obtain ⟨hsel, hcfg, hcd⟩ := readBlockAt_frame s.selCd.nextLba.toNat s.selCd.sectorSize s
  rw [loadNextCdSector]
  generalize readBlockAt s.selCd.nextLba.toNat s.selCd.sectorSize s = r at block hsel hcfg hcd
  obtain ⟨u, o⟩ := r
  cases block
  dsimp only at hsel hcfg hcd
  simp only [State.putBuffer, State.withDrive_sel, State.withDrive_selCd, State.withDrive_withDrive, hsel, hcfg, hcd]

theorem loadNextCdSector_short (short : (readBlockAt s.selCd.nextLba.toNat s.selCd.sectorSize s).2 = none) :
    loadNextCdSector s =
      .aborted (raiseError .abort (readBlockAt s.selCd.nextLba.toNat s.selCd.sectorSize s).1) := by
  rw [loadNextCdSector]
  generalize readBlockAt s.selCd.nextLba.toNat s.selCd.sectorSize s = r at short
  obtain ⟨u, o⟩ := r
  cases short
  rfl

theorem wrapCursor_eq (s : State) :
    wrapCursor s = s.withDrive { s.sel with
      sectorPos := if s.sel.unitSize ≤ s.sel.sectorPos then 0 else s.sel.sectorPos } := by
  unfold wrapCursor
  split
  · rfl
  · exact (s.withDrive_self).symm

/-- Settles O33: what is left decides for the completion, then the cursor for the next sector, then the counter of
the data block. -/
theorem packetDataBoundary : Obligations.PacketDataBoundary := by
  intro s live reading free packet left x m r announce
  have answer : exec .ior16Data s = .next (atapiBoundary m) := by
    refine (execIor16Data_open live reading free).trans ?_
    rw [afterDataRead_packet packet]
    rfl
  have hsel : m.sel = x := packetItemReturned_sel s
  have hcd : m.selCd = { s.selCd with remainingBytes := left } := packetItemReturned_selCd s
  have announced {u : State} (hcyl : u.sel.cylinder = s.sel.cylinder) (hdrq : u.sel.drqPos = s.sel.drqPos + 2)
      (hleft : u.selCd.remainingBytes = left) : nextDataBlock u = announce u := by
    rw [nextDataBlock_eq, hcyl, hdrq, hleft]
  have hread : readBlockAt m.selCd.nextLba.toNat m.selCd.sectorSize m = r := by
    rw [hcd]
  have more (hleft : left ≠ 0) : ¬m.selCd.remainingBytes = 0 := by rwa [hcd]
  refine ⟨fun done => ?_, fun hleft inside => ?_, fun hleft ended short => ?_, fun bs hleft ended block => ?_⟩
  · rw [answer, atapiBoundary, if_pos (by rwa [hcd]), atapiComplete, wrapCursor_eq, State.withDrive_sel,
      State.withDrive_withDrive, hsel]
    rfl
  · have hinside : ¬m.sel.unitSize ≤ m.sel.sectorPos := by rw [hsel]; exact Nat.not_le.mpr inside
    rw [answer, atapiBoundary, if_neg (more hleft), if_neg hinside,
      announced (by rw [hsel]) (by rw [hsel]) (by rw [hcd])]
  · have hended : m.sel.unitSize ≤ m.sel.sectorPos := by rwa [hsel]
    rw [answer, atapiBoundary, if_neg (more hleft), if_pos hended, loadNextCdSector_short (by rwa [hread]), hread]
    rfl
  · have hended : m.sel.unitSize ≤ m.sel.sectorPos := by rwa [hsel]
    rw [answer, atapiBoundary, if_neg (more hleft), if_pos hended, loadNextCdSector_read (by rwa [hread]), hread,
      hsel, hcd]
    refine congrArg Host.Outcome.next (announced ?_ ?_ ?_)
    · rw [State.withCd_sel, State.withDrive_sel]
    · rw [State.withCd_sel, State.withDrive_sel]
    · rw [State.withCd_selCd]

/-! ## Writes -/

/-- The state after an item has been stored at the cursor and the cursor moved past it (40_register_access.md R135). -/
def itemStored (v : Half) (s : State) : State :=
  s.withDrive { s.sel with
    buffer := bufferPut s.cfg.maxBlock s.sel.buffer s.sel.sectorPos [v.extractLsb' 0 8, v.extractLsb' 8 8]
    sectorPos := s.sel.sectorPos + 2 }

theorem itemStored_sel (v : Half) (s : State) : (itemStored v s).sel = { s.sel with
    buffer := bufferPut s.cfg.maxBlock s.sel.buffer s.sel.sectorPos [v.extractLsb' 0 8, v.extractLsb' 8 8]
    sectorPos := s.sel.sectorPos + 2 } := s.withDrive_sel _

/-- In an open write phase the item is stored, and the rest is what the moved cursor leads to. -/
theorem execIow16Data_open (v : Half) (accepting : Accepting s)
    (writing : s.sel.state = .pioWrite ∨ s.sel.state = .packetReceive) (free : s.sel.status.getLsbD 7 = false) :
    execIow16Data v s = afterDataWrite (itemStored v s) := by
  have hopen : dataWriteOpen s = true := by
    rw [dataWriteOpen, isBusy, free]
    obtain h | h := writing <;> rw [h] <;> rfl
  rw [execIow16Data, hostWrite_performed accepting, if_pos hopen]
  simp only [State.putBuffer, State.withDrive_sel, State.withDrive_withDrive]
  rfl

theorem afterDataWrite_inside (inside : s.sel.sectorPos < s.sel.unitSize) : afterDataWrite s = .next s := by
  rw [afterDataWrite, if_neg (Nat.not_le.mpr inside)]

theorem afterDataWrite_sector (writing : s.sel.state = .pioWrite) (ended : s.sel.unitSize ≤ s.sel.sectorPos) :
    afterDataWrite s = .next (endWriteUnit s) := by
  rw [afterDataWrite, if_pos ended, if_neg (by rw [writing]; decide)]

/-- The buffer after two bytes have been stored in it. -/
theorem bufferByte_putItem (cap : Nat) (buf : List Byte) (p : Nat) (low high : Byte) (q : Nat) (fits : p + 2 ≤ cap)
    (hq : q < cap) :
    bufferByte (bufferPut cap buf p [low, high]) q =
      if q = p then low else if q = p + 1 then high else bufferByte buf q := by
  split_ifs with h0 h1
  · subst h0
    exact bufferByte_put_inside cap buf q [low, high] 0 Nat.two_pos fits
  · subst h1
    exact bufferByte_put_inside cap buf p [low, high] 1 Nat.one_lt_two fits
  · obtain hlt | hge : q < p ∨ p + 2 ≤ q := by omega
    · exact bufferByte_put_below cap buf p _ q hlt hq
    · exact bufferByte_put_above cap buf p _ q hge hq

/-- Settles O35: inside the unit the stored item is all. -/
theorem dataWriteInsideUnit : Obligations.DataWriteInsideUnit := by
  intro s v accepting writing free inside
  have answer : exec (.iow16Data v) s = .next (itemStored v s) := by
    refine (execIow16Data_open v accepting writing free).trans (afterDataWrite_inside ?_)
    rwa [itemStored_sel]
  refine ⟨_, answer, ?_, fun fits q hq => ?_⟩
  · rw [itemStored_sel]
    rfl
  · rw [itemStored_sel]
    exact bufferByte_putItem _ _ _ _ _ q fits hq

/-! ## The end of a unit of WRITE_SECTOR -/

/-- The end of a unit after the block has gone to the device: the task file advances, the count goes down, and at 0
the drive is ready and idle (40_register_access.md R137). -/
def unitWritten (s : State) : State :=
  raiseInterrupt (s.withDrive
    (if s.sel.sectorCount = 1 then
      { incAddress s.selCfg s.sel with
        sectorCount := s.sel.sectorCount - 1, status := statusReady, state := .idle }
     else { incAddress s.selCfg s.sel with sectorCount := s.sel.sectorCount - 1 }))

theorem endWriteUnit_eq (s : State) :
    endWriteUnit s = (storeUnit (s.withDrive { s.sel with sectorPos := 0 })).andThen unitWritten := by
  have hcount (u : State) : u.sel.sectorCount - 1 = 0 ↔ u.sel.sectorCount = 1 := sub_eq_zero
  unfold endWriteUnit
  congr 1
  funext u
  simp only [nextUnit_eq, State.withDrive_sel, State.withDrive_withDrive, hcount, unitWritten]
  split <;> rfl

/-- Settles O37: `StoreUnit` decides between the abort and the next unit. -/
theorem writeSectorUnitBoundary : Obligations.WriteSectorUnitBoundary := by
  intro s v accepting writing free ended x lba ok r y
  have hrewound : (itemStored v s).withDrive { (itemStored v s).sel with sectorPos := 0 } = s.withDrive x := by
    rw [itemStored_sel, itemStored, State.withDrive_withDrive]
  have answer : exec (.iow16Data v) s = .next ((storeUnit (s.withDrive x)).andThen unitWritten) := by
    refine (execIow16Data_open v accepting (.inl writing) free).trans ?_
    rw [afterDataWrite_sector (by rwa [itemStored_sel]) (by rwa [itemStored_sel]), endWriteUnit_eq, hrewound]
  have hsel : (s.withDrive x).sel = x := s.withDrive_sel x
  have addressable : unitAddressable (s.withDrive x) = true ↔ ok := by
    rw [unitAddressable_iff, hsel]
    rfl
  have hwrite : writeBlockAt (makeLogical (s.withDrive x).selCfg (s.withDrive x).sel)
      (bufferSlice (s.withDrive x).sel.buffer 0 512) (s.withDrive x) = r := by
    rw [hsel]
    rfl
  refine ⟨fun out => ?_, fun inside short => ?_, fun inside stored => ?_⟩
  · rw [answer, storeUnit_outside (mt addressable.mp out)]
    rfl
  · rw [answer, storeUnit_eq (addressable.mpr inside), hwrite, short]
    rfl
  · have hview : r.1.sel = x ∧ r.1.selCfg = s.selCfg := by
      have h := OwnWork.writeBlockAt (s.withDrive x) lba (bufferSlice x.buffer 0 512)
      exact ⟨(sel_eq_of_view (view_writeBlockAt _ _ _)).trans hsel, h.selCfg⟩
    rw [answer, storeUnit_eq (addressable.mpr inside), hwrite, if_pos stored, Attempt.andThen, unitWritten, hview.1,
      hview.2]
    rfl

end Sys2Proof.Machine
end

section
/-!
A packet over the data register (40_register_access.md R135, R136; 42_atapi_packet.md R201): six words store its twelve
bytes, the last of them runs its handler, and the handler reads the packet's fields alone.
-/

namespace Sys2Proof.Machine

variable {s : State}

/-! ## The bytes of a packet -/

/-- Bytes stored from the buffer's start. -/
theorem bufferPut_start (cap : Nat) (buf bs : List Byte) :
    bufferPut cap buf 0 bs = (bs ++ buf.drop bs.length).take cap := by
  simp [bufferPut]

/-- Bytes stored after bytes stored from the start are bytes stored from the start. -/
theorem bufferPut_append (cap : Nat) (buf bs cs : List Byte) (fits : bs.length ≤ cap) :
    bufferPut cap (bufferPut cap buf 0 bs) bs.length cs = bufferPut cap buf 0 (bs ++ cs) := by
  have hlength : bs.length ≤ (bufferPut cap buf 0 bs).length := by
    rw [bufferPut_start, List.length_take, List.length_append]
    omega
  have hfirst : (bufferPut cap buf 0 bs).take bs.length = bs := by
    rw [bufferPut_start, List.take_take, Nat.min_eq_left fits, List.take_left]
  have hrest : (bufferPut cap buf 0 bs).drop (bs.length + cs.length) =
      (buf.drop (bs.length + cs.length)).take (cap - (bs.length + cs.length)) := by
    rw [bufferPut_start, List.drop_take, List.drop_append, List.drop_of_length_le (by omega), List.nil_append,
      List.drop_drop]
    congr 2
    omega
  rw [bufferPut, hfirst, hrest, Nat.sub_eq_zero_of_le hlength, bufferPut_start, List.length_append]
  simp only [List.replicate_zero, List.append_nil, List.take_append, List.take_take, Nat.sub_sub, Nat.min_self,
    List.append_assoc]

/-- The word that carries bytes `2k` and `2k + 1`. -/
def packetWord (b : List Byte) (k : Nat) : Half := b.getD (2 * k + 1) 0 ++ b.getD (2 * k) 0

theorem packetWord_bytes (b : List Byte) (k : Nat) :
    [(packetWord b k).extractLsb' 0 8, (packetWord b k).extractLsb' 8 8] = [b.getD (2 * k) 0, b.getD (2 * k + 1) 0] := by
  obtain ⟨low, high⟩ := byteOf_le16 (b.getD (2 * k) 0) (b.getD (2 * k + 1) 0)
  exact congrArg₂ (fun l h => [l, h]) low high

theorem take_nextWord (b : List Byte) (k : Nat) (inside : 2 * k + 2 ≤ b.length) :
    b.take (2 * (k + 1)) = b.take (2 * k) ++ [b.getD (2 * k) 0, b.getD (2 * k + 1) 0] := by
  rw [show 2 * (k + 1) = 2 * k + 1 + 1 by omega, List.take_succ_eq_append_getElem (by omega),
    List.take_succ_eq_append_getElem (by omega), List.append_assoc]
  simp [List.getD_eq_getElem?_getD, List.getElem?_eq_getElem (show 2 * k < b.length by omega),
    List.getElem?_eq_getElem (show 2 * k + 1 < b.length by omega)]

/-! ## Six words -/

/-- The first `k` words of the packet lie in the buffer, the cursor behind them. -/
def wordsStored (b : List Byte) (k : Nat) (s : State) : State :=
  s.withDrive { s.sel with
    buffer := bufferPut s.cfg.maxBlock s.sel.buffer 0 (b.take (2 * k)), sectorPos := 2 * k }

theorem wordsStored_sel (b : List Byte) (k : Nat) (s : State) : (wordsStored b k s).sel = { s.sel with
    buffer := bufferPut s.cfg.maxBlock s.sel.buffer 0 (b.take (2 * k)), sectorPos := 2 * k } := s.withDrive_sel _

theorem itemStored_firstWord {b : List Byte} (start : s.sel.sectorPos = 0) (inside : 2 ≤ b.length) :
    itemStored (packetWord b 0) s = wordsStored b 1 s := by
  rw [itemStored, packetWord_bytes, start, wordsStored, take_nextWord b 0 inside]
  rfl

theorem itemStored_nextWord {b : List Byte} {k : Nat} (inside : 2 * k + 2 ≤ b.length)
    (fits : b.length ≤ s.cfg.maxBlock) :
    itemStored (packetWord b k) (wordsStored b k s) = wordsStored b (k + 1) s := by
  have hlength : (b.take (2 * k)).length = 2 * k := by
    rw [List.length_take]
    omega
  have hput := bufferPut_append s.cfg.maxBlock s.sel.buffer (b.take (2 * k)) [b.getD (2 * k) 0, b.getD (2 * k + 1) 0]
    (by omega)
  rw [hlength, ← take_nextWord b k inside] at hput
  have hcfg : (wordsStored b k s).cfg = s.cfg := rfl
  rw [itemStored, packetWord_bytes, wordsStored_sel, hcfg, hput, wordsStored, State.withDrive_withDrive]
  rfl

/-- A drive that waits for a packet of twelve bytes, of which it has received none. -/
structure PacketStart (s : State) : Prop where
  waiting : AwaitingPacket s
  start : s.sel.sectorPos = 0
  unit : s.sel.unitSize = 12
  room : 12 ≤ s.cfg.maxBlock

/-- A word of a waiting drive is stored, and what follows is up to the moved cursor. -/
theorem execIow16Data_waiting (waiting : AwaitingPacket s) (v : Half) :
    execIow16Data v s = afterDataWrite (itemStored v s) := by
  obtain ⟨accepting, receiving, free⟩ := waiting
  exact execIow16Data_open v accepting (.inr receiving) free

theorem AwaitingPacket.wordsStored (waiting : AwaitingPacket s) (b : List Byte) (k : Nat) :
    AwaitingPacket (wordsStored b k s) := by
  obtain ⟨accepting, receiving, free⟩ := waiting
  exact ⟨accepting, by rwa [wordsStored_sel], by rwa [wordsStored_sel]⟩

/-- Before the sixth word the cursor is inside the unit of twelve bytes. -/
theorem PacketStart.afterDataWrite_inside (h : PacketStart s) (b : List Byte) {k : Nat} (hk : k < 6) :
    afterDataWrite (Machine.wordsStored b k s) = .next (Machine.wordsStored b k s) := by
  refine Machine.afterDataWrite_inside ?_
  rw [wordsStored_sel]
  change 2 * k < s.sel.unitSize
  rw [h.unit]
  omega

theorem PacketStart.firstWord (h : PacketStart s) {b : List Byte} (twelve : b.length = 12) :
    exec (.iow16Data (packetWord b 0)) s = .next (Machine.wordsStored b 1 s) := by
  refine (execIow16Data_waiting h.waiting _).trans ?_
  rw [itemStored_firstWord h.start (by omega), h.afterDataWrite_inside b (by omega)]

/-- Each of the words before the last moves on to the next, whatever the words before it were reached by. -/
theorem PacketStart.nextWord (h : PacketStart s) {b : List Byte} (twelve : b.length = 12) {k : Nat} (hk : k < 5)
    {r : Result} (reached : r = .next (Machine.wordsStored b k s)) :
    andThen r (exec (.iow16Data (packetWord b k))) = .next (Machine.wordsStored b (k + 1) s) := by
  have hroom := h.room
  rw [reached, andThen_next]
  refine (execIow16Data_waiting (h.waiting.wordsStored b k) _).trans ?_
  rw [itemStored_nextWord (by omega) (by omega), h.afterDataWrite_inside b (by omega)]

/-! ## The handler -/

/-- The dispatcher on the first eleven bytes of a packet: the twelfth is none of its operands. -/
def dispatchBytes (b : List Byte) : State → Result :=
  dispatchPacket (b.getD 0 0) (b.getD 1 0) (b.getD 2 0) (b.getD 3 0) (b.getD 4 0) (b.getD 5 0) (b.getD 6 0)
    (b.getD 7 0) (b.getD 8 0) (b.getD 9 0) (b.getD 10 0)

/-- The packet instruction that the bytes are. -/
def decodedPacket (b : List Byte) : Instr :=
  decodePacket (b.getD 0 0) (b.getD 1 0) (b.getD 2 0) (b.getD 3 0) (b.getD 4 0) (b.getD 5 0) (b.getD 6 0)
    (b.getD 7 0) (b.getD 8 0) (b.getD 9 0) (b.getD 10 0)

theorem decodedPacket_eq {b : List Byte} {i : Instr} (h : decodePacketBytes b = .ok i) : decodedPacket b = i := by
  unfold decodePacketBytes at h
  split at h
  · exact Except.ok.inj h
  · cases h

/-- Packets that decode alike are handled alike (30_encoding.md R117, R122). -/
theorem dispatchBytes_congr {b c : List Byte} (h : decodedPacket b = decodedPacket c) :
    dispatchBytes b = dispatchBytes c := by
  unfold decodedPacket at h
  unfold dispatchBytes dispatchPacket
  rw [h]

/-- What the packet decoder answers is a well-formed packet instruction. -/
theorem decodedPacket_isPacket (ch : Channel) (b : List Byte) :
    (decodedPacket b).wellFormed ch = true ∧ (encode ch (decodedPacket b)).1 = .pkt := by
  unfold decodedPacket decodePacket
  split_ifs
  case neg => simp_all [Instr.wellFormed, packetOpcodes, encode]
  all_goals exact ⟨rfl, rfl⟩

/-- The fields of a packet with 0 elsewhere are the packet's. -/
theorem decodedPacket_encodePacket {ch : Channel} {i : Instr} (wf : i.wellFormed ch = true)
    (packet : (encode ch i).1 = .pkt) : decodedPacket (encodePacket i) = i :=
  decodedPacket_eq (decodePacketBytes_encodePacket wf packet)

/-- A packet row as an instruction is its packet delivered to the dispatcher (log 14). -/
theorem exec_packetRow {ch : Channel} {i : Instr} (wf : i.wellFormed ch = true) (packet : (encode ch i).1 = .pkt)
    (s : State) : exec i s = deliverPacket (encodePacket i) (dispatchBytes (encodePacket i)) s := by
  have h := decodedPacket_encodePacket wf packet
  unfold decodedPacket at h
  unfold dispatchBytes dispatchPacket
  rw [h]
  cases i with
  | requestSense alloc | inquiry alloc | modeSense6 pc page alloc | modeSense10 pc page alloc
  | readToc msf format track alloc | readDvdStructure address layer format alloc | read10 lba len | read12 lba len
  | readCd lba len sub subch | pktUnknown op => rfl
  | _ => cases packet

/-- The nine opcodes, in the order of their values. -/
theorem packetOpcodes_of_unnamed {op : Byte}
    (unnamed : op ∉ [0x03#8, 0x12#8, 0x1A#8, 0x28#8, 0x43#8, 0x5A#8, 0xA8#8, 0xAD#8, 0xBE#8]) :
    packetOpcodes.contains op = false := by
  simp_all [packetOpcodes]

theorem encodePacket_length {ch : Channel} {i : Instr} (packet : (encode ch i).1 = .pkt) :
    (encodePacket i).length = 12 ∧ (encode ch i).2 = encodePacket i := by
  cases i with
  | requestSense alloc | inquiry alloc | modeSense6 pc page alloc | modeSense10 pc page alloc
  | readToc msf format track alloc | readDvdStructure address layer format alloc | read10 lba len | read12 lba len
  | readCd lba len sub subch | pktUnknown op => exact ⟨rfl, rfl⟩
  | _ => cases packet

/-- A whole packet delivered to a waiting drive runs its handler. -/
theorem deliverPacket_waiting (waiting : AwaitingPacket s) (b : List Byte) (body : State → Result) :
    deliverPacket b body s = body (packetReceived b s) := by
  obtain ⟨accepting, receiving, free⟩ := waiting
  have hopen : packetOpen s = true := by
    rw [packetOpen, receiving, free]
    rfl
  rw [deliverPacket, hostWrite_performed accepting, if_pos hopen]
  rfl

/-- The handler reads the packet from the buffer. -/
theorem dispatchBuffer_packetReceived {b : List Byte} (twelve : b.length = 12) (room : 12 ≤ s.cfg.maxBlock) :
    dispatchBuffer (packetReceived b s) = dispatchBytes b (packetReceived b s) := by
  have byte {i : Nat} (hi : i < 12) : bufferByte (packetReceived b s).sel.buffer i = b.getD i 0 := by
    have h := bufferByte_put_inside s.cfg.maxBlock s.sel.buffer 0 b i (by omega) (by omega)
    rw [Nat.zero_add] at h
    simpa [packetReceived] using h
  rw [dispatchBuffer, dispatchBytes, byte (i := 0) (by decide), byte (i := 1) (by decide), byte (i := 2) (by decide),
    byte (i := 3) (by decide), byte (i := 4) (by decide), byte (i := 5) (by decide), byte (i := 6) (by decide),
    byte (i := 7) (by decide), byte (i := 8) (by decide), byte (i := 9) (by decide), byte (i := 10) (by decide)]

/-- The sixth word completes the packet, which is handed to the dispatcher. -/
theorem PacketStart.lastWord (h : PacketStart s) {b : List Byte} (twelve : b.length = 12) :
    exec (.iow16Data (packetWord b 5)) (Machine.wordsStored b 5 s) = dispatchBytes b (packetReceived b s) := by
  have hroom := h.room
  have hended : (Machine.wordsStored b 6 s).sel.unitSize ≤ (Machine.wordsStored b 6 s).sel.sectorPos := by
    rw [wordsStored_sel]
    exact h.unit.le
  have hreceiving : (Machine.wordsStored b 6 s).sel.state = .packetReceive := by
    rw [wordsStored_sel]
    obtain ⟨-, receiving, -⟩ := h.waiting
    exact receiving
  have hreceived : (Machine.wordsStored b 6 s).withDrive { (Machine.wordsStored b 6 s).sel with sectorPos := 0 } =
      packetReceived b s := by
    rw [wordsStored_sel, Machine.wordsStored, List.take_of_length_le twelve.le]
    simp [packetReceived, State.putBuffer]
  refine (execIow16Data_waiting (h.waiting.wordsStored b 5) _).trans ?_
  rw [itemStored_nextWord (by omega) (by omega), afterDataWrite, if_pos hended, if_pos hreceiving, hreceived,
    dispatchBuffer_packetReceived twelve hroom]

/-- Settles O36: six words end in the dispatcher, which depends on the decoded packet alone, and so does the row. -/
theorem sixWordsRunThePacket : Obligations.SixWordsRunThePacket := by
  unfold Obligations.SixWordsRunThePacket
  intro word sixWords dispatch
  have delivered {b : List Byte} {s : State} (twelve : b.length = 12) (h : PacketStart s) :
      sixWords b s = dispatchBytes b (packetReceived b s) := by
    have two := h.nextWord twelve (k := 1) (by decide) (h.firstWord twelve)
    have four := h.nextWord twelve (by decide) (h.nextWord twelve (by decide) two)
    have five := h.nextWord twelve (by decide) four
    exact (congrArg (andThen · (exec (.iow16Data (packetWord b 5)))) five).trans (h.lastWord twelve)
  refine ⟨fun b s twelve waiting start unit room => ?_, fun cx b i u decoded => ?_,
    fun ch i s wf packet waiting start unit room => ?_⟩
  · have six := delivered twelve ⟨waiting, start, unit, room⟩
    refine ⟨six, fun unnamed => six.trans ?_⟩
    rw [dispatchBytes, dispatchPacket, decodePacket_unknown (packetOpcodes_of_unnamed unnamed)]
    rfl
  · have same : decodedPacket b = decodedPacket (encodePacket i) := by
      obtain rfl := decodedPacket_eq decoded
      obtain ⟨wf, packet⟩ := decodedPacket_isPacket cx.channel b
      exact (decodedPacket_encodePacket wf packet).symm
    exact congrFun (dispatchBytes_congr same) u
  · obtain ⟨twelve, bytes⟩ := encodePacket_length packet
    rw [bytes, delivered twelve ⟨waiting, start, unit, room⟩, exec_packetRow wf packet,
      deliverPacket_waiting waiting]

end Sys2Proof.Machine
end

section
/-!
The command register (40_register_access.md R149; 41_ata_commands.md R170): a byte is the command it decodes to, and
each command but the one that runs a walk completes with the channel's registers as they are.
-/

namespace Sys2Proof.Machine

variable {s : State}

/-! ## The byte of a command -/

/-- A byte is one of the eleven of the command map, or none (30_encoding.md R102, R122). -/
theorem commandByte_cases (v : Byte) :
    (v = 0x20 ∨ v = 0x30 ∨ v = 0xA0 ∨ v = 0xA1 ∨ v = 0xC8 ∨ v = 0xCA ∨ v = 0xE0 ∨ v = 0xE6 ∨ v = 0xE7 ∨ v = 0xEC ∨
      v = 0xEF) ∨ decodeAta v = .ataUnknown v := by
  by_cases named : ataOpcodes.contains v = true
  · exact .inl (by simpa [ataOpcodes] using named)
  · exact .inr (decodeAta_unknown (by simpa using named))

/-- The dispatcher of bytes runs the instruction the byte is. -/
theorem exec_iow8Command (v : Byte) (s : State) : exec (.iow8Command v) s = exec (decodeAta v) s := by
  change runCommandByte v s = exec (decodeAta v) s
  obtain (rfl | rfl | rfl | rfl | rfl | rfl | rfl | rfl | rfl | rfl | rfl) | unnamed := commandByte_cases v
  case inr =>
    rw [runCommandByte, unnamed]
    rfl
  all_goals rfl

/-! ## What a command leaves alone -/

/-- The components that a command which starts no walk keeps: its byte and the counter of its data block, the
selection, the bus master, guest memory, the walk and the fault latch. -/
def State.commandView (s : State) : Byte × Nat × DriveId × BusMaster × Memory × Walk × Option FatalReason :=
  (s.sel.command, s.sel.drqPos, s.selectedDrive, s.bm, s.mem, s.walk, s.fault)

/-- New registers of the selected drive, with the command byte and the counter as they are. -/
theorem commandView_withDrive {x : Drive} (command : x.command = s.sel.command) (drqPos : x.drqPos = s.sel.drqPos) :
    (s.withDrive x).commandView = s.commandView := by
  simp [State.commandView, command, drqPos]

@[simp] theorem commandView_withCd (s : State) (x : CdRom) : (s.withCd x).commandView = s.commandView := rfl

@[simp] theorem commandView_putBuffer (s : State) (p : Nat) (bs : List Byte) :
    (s.putBuffer p bs).commandView = s.commandView := commandView_withDrive rfl rfl

@[simp] theorem commandView_raiseInterrupt (s : State) : (raiseInterrupt s).commandView = s.commandView := by
  simp [State.commandView]

@[simp] theorem commandView_readBlockAt (lba n : Nat) (s : State) :
    (readBlockAt lba n s).1.commandView = s.commandView := by
  rw [readBlockAt_eq]
  rfl

/-- New registers, then the interrupt. -/
theorem commandView_raise {x : Drive} (command : x.command = s.sel.command) (drqPos : x.drqPos = s.sel.drqPos) :
    (raiseInterrupt (s.withDrive x)).commandView = s.commandView :=
  (commandView_raiseInterrupt _).trans (commandView_withDrive command drqPos)

@[simp] theorem commandView_abort (s : State) : (raiseError .abort s).commandView = s.commandView :=
  commandView_raise rfl rfl

theorem commandView_completeCommand (s : State) : (completeCommand s).commandView = s.commandView :=
  commandView_raise rfl rfl

theorem commandView_identifyBody (s : State) : (identifyBody s).commandView = s.commandView := by
  rw [identifyBody, commandView_raise, commandView_putBuffer] <;> rfl

theorem commandView_loadUnit (s : State) : (loadUnit s).state.commandView = s.commandView := by
  by_cases addressable : unitAddressable s = true
  · obtain ⟨hsel, -⟩ := readBlockAt_frame (makeLogical s.selCfg s.sel) 512 s
    cases block : (readBlockAt (makeLogical s.selCfg s.sel) 512 s).2 with
    | none => rw [loadUnit_short addressable block, Attempt.state, commandView_abort, commandView_readBlockAt]
    | some bs =>
      rw [loadUnit_read addressable block, Attempt.state, commandView_withDrive (by rw [hsel]) (by rw [hsel]),
        commandView_readBlockAt]
  · rw [loadUnit_outside addressable, Attempt.state, commandView_abort]

theorem commandView_readSectorBody (s : State) : (readSectorBody s).commandView = s.commandView := by
  rw [← commandView_loadUnit s, readSectorBody]
  cases loadUnit s with
  | done u => exact commandView_raise rfl rfl
  | aborted u => rfl

theorem commandView_writeSectorBody (s : State) : (writeSectorBody s).commandView = s.commandView := by
  unfold writeSectorBody
  split
  · exact commandView_withDrive rfl rfl
  · exact commandView_abort s

theorem commandView_packetBody (s : State) : (packetBody s).commandView = s.commandView := by
  rw [packetBody, commandView_withDrive, commandView_withCd] <;> rfl

theorem commandView_setFeaturesBody (s : State) : (setFeaturesBody s).commandView = s.commandView := by
  unfold setFeaturesBody
  split
  · exact commandView_completeCommand s
  · exact commandView_abort s

theorem commandView_flushCacheBody (s : State) : (flushCacheBody s).commandView = s.commandView := by
  rw [flushCacheBody, commandView_completeCommand]
  simp [State.commandView]

theorem commandView_armDma (s : State) : (armDma s).commandView = s.commandView := by
  simp [armDma, State.commandView]

/-- A DMA command completes, unless its range is on the medium and START is set (43_busmaster_dma.md R247). -/
theorem dmaBody_completes (quiet : isStart s.bm.command = false ∨ rangeAddressable s = false) :
    ∃ t, dmaBody s = .next t ∧ t.commandView = s.commandView := by
  unfold dmaBody
  split
  · next inside =>
    obtain stopped | outside := quiet
    · have hkick : kickCondition (armDma s) = false := by
        rw [kickCondition, show (armDma s).bm = s.bm from rfl, stopped, Bool.and_false]
      exact ⟨_, kick_of_not_condition .command hkick, commandView_armDma s⟩
    · exact absurd inside (by rw [outside]; decide)
  · exact ⟨_, rfl, commandView_abort s⟩

/-! ## The command write -/

/-- The command completes: an installed drive keeps the byte, and the channel's registers stay. -/
def CommandCompletes (v : Byte) (s : State) (r : Result) : Prop :=
  ∃ t, r = .next t ∧ (s.selCfg.installed = true → t.sel.command = v ∧ t.sel.drqPos = 0) ∧
    t.selectedDrive = s.selectedDrive ∧ t.bm = s.bm ∧ t.mem = s.mem ∧ t.walk = s.walk ∧ t.fault = none

/-- A state with the view of the accepted command is one in which it has completed. -/
theorem CommandCompletes.of_view {v : Byte} {t : State} {r : Result} (live : s.fault = none) (answer : r = .next t)
    (view : t.commandView = (acceptCommand v s).commandView) : CommandCompletes v s r := by
  simp only [State.commandView, acceptCommand, State.withDrive_sel, Prod.mk.injEq] at view
  obtain ⟨command, drqPos, selected, bm, mem, walk, fault⟩ := view
  exact ⟨t, answer, fun _ => ⟨command, drqPos⟩, selected, bm, mem, walk, fault.trans live⟩

/-- The dispatcher completes a command whose `Exec`, where it is reached, does (41_ata_commands.md R170, R171). -/
theorem CommandCompletes.dispatch {v : Byte} {ps : List Protocol} {b : Bool} {run : State → Result}
    (accepting : Accepting s)
    (runs : s.selCfg.installed = true → ps.contains s.selCfg.protocol = true → (s.cfg.defer && b) = false →
      ∃ t, run (acceptCommand v s) = .next t ∧ t.commandView = (acceptCommand v s).commandView) :
    CommandCompletes v s (dispatchCommand v ps b run s) := by
  rw [dispatchCommand, hostWrite_performed accepting]
  have hcfg : (acceptCommand v s).selCfg = s.selCfg := rfl
  have hdefer : (acceptCommand v s).cfg = s.cfg := rfl
  dsimp only
  rw [hcfg, hdefer]
  split
  · next absent =>
    exact ⟨_, rfl, fun installed => absurd absent (by simp [installed]), rfl, rfl, rfl, rfl, accepting.1⟩
  next installed =>
  split
  · exact .of_view accepting.1 rfl (commandView_abort _)
  next known =>
  split
  · exact .of_view accepting.1 rfl (commandView_withDrive rfl rfl)
  next immediate =>
  obtain ⟨t, answer, view⟩ := runs (by simpa using installed) (by simpa using known) (by simpa using immediate)
  exact .of_view accepting.1 answer view

/-- A command whose `Exec` answers one next state. -/
theorem CommandCompletes.dispatchBody {v : Byte} {ps : List Protocol} {b : Bool} {body : State → State}
    (accepting : Accepting s) (view : ∀ u, (body u).commandView = u.commandView) :
    CommandCompletes v s (Machine.dispatchCommand v ps b (fun u => .next (body u)) s) :=
  .dispatch accepting fun _ _ _ => ⟨_, rfl, view _⟩

/-- The two DMA commands, where they do not find START set with their range on the medium. -/
theorem CommandCompletes.dispatchDma {v : Byte} (accepting : Accepting s)
    (quiet : ¬(isStart s.bm.command = true ∧ s.selCfg.installed = true ∧ s.selCfg.protocol = .ata ∧
      s.cfg.defer = false ∧ rangeAddressable s = true)) :
    CommandCompletes v s (Machine.dispatchCommand v [.ata] true dmaBody s) := by
  refine .dispatch accepting fun installed known immediate => dmaBody_completes ?_
  have protocol : s.selCfg.protocol = .ata := by simpa using known
  have defer : s.cfg.defer = false := by simpa using immediate
  have range : rangeAddressable (acceptCommand v s) = rangeAddressable s := by
    simp only [rangeAddressable, acceptCommand, State.withDrive_sel, State.withDrive_selCfg]
    rfl
  by_cases start : isStart s.bm.command = true
  · exact .inr (by rw [range]; simpa [start, installed, protocol, defer] using quiet)
  · exact .inl (by simpa [acceptCommand] using start)

/-- Settles O19: each row of the command map completes by its body; the DMA rows by the hypothesis on the kick. -/
theorem commandWriteRunsItsByte : Obligations.CommandWriteRunsItsByte := by
  refine ⟨exec_iow8Command, fun v s accepting walks => ?_⟩
  have dma (h : v = 0xC8 ∨ v = 0xCA) :
      ¬(isStart s.bm.command = true ∧ s.selCfg.installed = true ∧ s.selCfg.protocol = .ata ∧ s.cfg.defer = false ∧
        rangeAddressable s = true) := fun ⟨start, rest⟩ => walks ⟨start, h, rest⟩
  change CommandCompletes v s (runCommandByte v s)
  obtain (rfl | rfl | rfl | rfl | rfl | rfl | rfl | rfl | rfl | rfl | rfl) | unnamed := commandByte_cases v
  · exact .dispatchBody accepting commandView_readSectorBody
  · exact .dispatchBody accepting commandView_writeSectorBody
  · exact .dispatchBody accepting commandView_packetBody
  · exact .dispatchBody accepting commandView_identifyBody
  · exact .dispatchDma accepting (dma (.inl rfl))
  · exact .dispatchDma accepting (dma (.inr rfl))
  · exact .dispatchBody accepting commandView_completeCommand
  · exact .dispatchBody accepting commandView_completeCommand
  · exact .dispatchBody accepting commandView_flushCacheBody
  · exact .dispatchBody accepting commandView_identifyBody
  · exact .dispatchBody accepting commandView_setFeaturesBody
  · rw [runCommandByte, unnamed]
    exact .dispatchBody accepting commandView_abort

end Sys2Proof.Machine
end

section
/-!
The configuration alias (40_register_access.md R154): the instruction a bus-master transaction decodes to is the access
of its bytes at the window offset (43_busmaster_dma.md R240), and so is the alias at the rebased offset.
-/

namespace Sys2Proof.Machine

variable {s : State}

/-! ## An access as the bytes at its offset -/

/-- A datum of one byte. -/
theorem datumOf_byte (v : Byte) : datumOf [v] = v.setWidth 32 := by
  have hzero : (0#8 ++ 0#8 ++ 0#8 : BitVec 24) = 0#24 := rfl
  rw [BitVec.setWidth_eq_append (x := v) (w := 32) (by decide)]
  exact congrArg (· ++ v) hzero

theorem andThen_next_right (r : Result) : andThen r .next = r := by
  cases r <;> rfl

theorem bmAccess_read (o : Nat) (s : State) : bmAccess o .r8 s = .next (s.returns ((bmReadByte o s).setWidth 32)) :=
  congrArg (fun v => Host.Outcome.next (s.returns v)) (datumOf_byte (bmReadByte o s))

theorem bmAccess_write (o : Nat) (v : Byte) (s : State) : bmAccess o (.w8 v) s = bmWriteByte o v s :=
  andThen_next_right _

/-- A byte register of the bus master, both of whose sides are the byte access at its offset. -/
theorem exec_byteRegister {read : Instr} {write : Byte → Instr} {other : Access → Instr} {o : Nat} {a : Access}
    (byte : a.size = 1) (hread : exec read s = readByte (bmReadByte o s) s)
    (hwrite : ∀ v, exec (write v) s = hostAccess s (bmWriteByte o v s)) :
    exec (byteRegister read write other a) s = hostAccess s (bmAccess o a s) := by
  cases a with
  | r8 => rw [bmAccess_read]; exact hread
  | w8 v => rw [bmAccess_write]; exact hwrite v
  | r16 | r32 | w16 v | w32 v => cases byte

/-- The register at place `k` of the channel's half is the byte access at its offset (43_busmaster_dma.md R241 to
R246). -/
theorem exec_decodeBmByte {k : Nat} (hk : k < 8) (offset : Byte) {a : Access} (byte : a.size = 1) (s : State) :
    exec (decodeBmByte k offset a) s = hostAccess s (bmAccess (s.cfg.channel.base + k) a s) := by
  have hnot : ¬s.cfg.channel.base + k < s.cfg.channel.base := by omega
  have hplace : s.cfg.channel.base + k - s.cfg.channel.base = k := by omega
  interval_cases k
  all_goals
    refine exec_byteRegister byte ?_ fun v => ?_
    · simp only [bmReadByte, hnot, if_false, hplace]
      rfl
    · simp only [bmWriteByte, hnot, if_false, hplace]
      rfl

/-- An offset that is not this channel's reads `0x00` and ignores a write. -/
theorem bmByte_other {offset : Byte} (other : s.cfg.channel.owns offset = false) :
    bmReadByte offset.toNat s = 0 ∧ ∀ v, bmWriteByte offset.toNat v s = .next s := by
  have outside : offset.toNat < s.cfg.channel.base ∨ 8 ≤ offset.toNat - s.cfg.channel.base := by
    rw [Channel.owns, decide_eq_false_iff_not] at other
    omega
  unfold bmReadByte bmWriteByte
  dsimp only
  obtain below | above := outside
  · exact ⟨if_pos below, fun v => if_pos below⟩
  · have hnot : ¬offset.toNat < s.cfg.channel.base := by omega
    obtain ⟨n, hn⟩ := Nat.exists_eq_add_of_le' above
    refine ⟨?_, fun v => ?_⟩ <;> rw [if_neg hnot, hn] <;> rfl

/-- What a bus-master transaction decodes to is the access of its bytes (43_busmaster_dma.md R240). -/
theorem exec_decodeBm (offset : Byte) (a : Access) (s : State) :
    exec (decodeBm s.cfg.channel offset a) s = hostAccess s (bmAccess offset.toNat a s) := by
  by_cases byte : a.size = 1
  · by_cases own : s.cfg.channel.owns offset = true
    · obtain ⟨k, hk, rfl⟩ := Channel.owns_iff.mp own
      rw [decodeBm_register _ hk byte, exec_decodeBmByte hk _ byte, Channel.toNat_offset _ hk]
    · obtain ⟨hread, hwrite⟩ := bmByte_other (s := s) (by simpa using own)
      rw [decodeBm, if_pos byte, if_neg own]
      cases a with
      | r8 => rw [bmAccess_read, hread]; rfl
      | w8 v => rw [bmAccess_write, hwrite]; rfl
      | r16 | r32 | w16 v | w32 v => cases byte
  · rw [decodeBm, if_neg byte]
    rfl

/-! ## Where no drive waits for the engine -/

/-- What the writes of the bus-master registers reach: these registers and the interrupt (43_busmaster_dma.md R242 to
R246). -/
def BusMasterWork (s t : State) : Prop :=
  t = { s with bm := t.bm, irqPending := t.irqPending, irqLine := t.irqLine, events := t.events }

theorem BusMasterWork.trans {s t u : State} (h : BusMasterWork s t) (k : BusMasterWork t u) : BusMasterWork s u := by
  unfold BusMasterWork at *
  rw [k, h]

theorem BusMasterWork.sel {s t : State} (h : BusMasterWork s t) : t.sel = s.sel := by
  rw [h]
  rfl

/-- The kick finds no drive in DMA_ACTIVE, so a START edge is a register write (43_busmaster_dma.md R247). -/
theorem writeBmCommand_completes (idle : s.sel.state ≠ .dmaActive) (v : Byte) :
    ∃ t, writeBmCommand v s = .next t ∧ BusMasterWork s t := by
  unfold writeBmCommand
  dsimp only
  split_ifs
  · refine ⟨_, kick_of_not_condition _ ?_, rfl⟩
    simp [kickCondition, idle]
  · exact ⟨_, rfl, rfl⟩
  · exact ⟨_, rfl, rfl⟩

theorem writeBmStatus_work (v : Byte) (s : State) : BusMasterWork s (writeBmStatus v s) := by
  unfold writeBmStatus
  dsimp only
  split <;> rfl

theorem bmWriteByte_completes (idle : s.sel.state ≠ .dmaActive) (o : Nat) (v : Byte) :
    ∃ t, bmWriteByte o v s = .next t ∧ BusMasterWork s t := by
  unfold bmWriteByte
  dsimp only
  split
  · exact ⟨s, rfl, rfl⟩
  · split
    · exact writeBmCommand_completes idle v
    · exact ⟨s, rfl, rfl⟩
    · exact ⟨_, rfl, writeBmStatus_work v s⟩
    all_goals exact ⟨_, rfl, rfl⟩

/-- The bytes of one access, each of which finds the drive as the first did. -/
theorem bmWriteBytes_completes (idle : s.sel.state ≠ .dmaActive) (bs : List Byte) (o : Nat) :
    ∃ t, bmWriteBytes o bs s = .next t ∧ BusMasterWork s t := by
  induction bs generalizing o s with
  | nil => exact ⟨s, rfl, rfl⟩
  | cons b bs ih =>
    obtain ⟨m, hm, first⟩ := bmWriteByte_completes idle o b
    obtain ⟨t, ht, rest⟩ := ih (s := m) (by rwa [first.sel]) (o + 1)
    refine ⟨t, ?_, first.trans rest⟩
    rw [bmWriteBytes, hm]
    exact ht

/-- A bus-master access completes: a write in the registers and the interrupt, a read in its datum. -/
theorem bmAccess_completes (idle : s.sel.state ≠ .dmaActive) (o : Nat) (a : Access) :
    ∃ t, bmAccess o a s = .next t ∧
      t = { s with
        bm := if a.isWrite = true then t.bm else s.bm
        irqPending := if a.isWrite = true then t.irqPending else s.irqPending
        irqLine := if a.isWrite = true then t.irqLine else s.irqLine
        events := if a.isWrite = true then t.events else s.events
        rdata := if a.isWrite = true then s.rdata else t.rdata } := by
  unfold bmAccess
  cases a.isWrite with
  | true => exact bmWriteBytes_completes idle _ o
  | false => exact ⟨_, rfl, rfl⟩

/-! ## The alias -/

theorem execCfgAlias_inside {offset : Byte} {k : Nat} (a : Access) (hk : k < 16)
    (inside : offset.toNat = s.cfg.cfgBmBase + k) : execCfgAlias offset a s = hostAccess s (bmAccess k a s) := by
  have hin : s.cfg.cfgBmBase ≤ offset.toNat ∧ offset.toNat < s.cfg.cfgBmBase + 16 := by omega
  rw [execCfgAlias, if_pos hin, inside, Nat.add_sub_cancel_left]

/-- Settles O28: both are the access of the bytes at offset `k`. -/
theorem configAliasIsBusMaster : Obligations.ConfigAliasIsBusMaster := by
  intro s offset a k hk inside
  have rebased : exec (.cfgAlias offset a) s = hostAccess s (bmAccess k a s) := execCfgAlias_inside a hk inside
  have hoffset : (BitVec.ofNat 8 k).toNat = k := by
    rw [BitVec.toNat_ofNat]
    omega
  refine ⟨?_, fun live idle => ?_⟩
  · rw [rebased, exec_decodeBm, hoffset]
  · rw [rebased, hostAccess_live _ live]
    exact bmAccess_completes idle k a

end Sys2Proof.Machine
end

section
/-!
The ATA commands inside their access (41_ata_commands.md R170 to R189): how the dispatcher ends for each kind of byte,
the hand-over of a deferring block included, what each body makes of the registers of the drive that accepted
it, and the statements that follow.
-/

namespace Sys2Proof.Machine

variable {s : State}

/-! ## The dispatcher -/

theorem acceptCommand_sel (v : Byte) (s : State) :
    (acceptCommand v s).sel = { s.sel with command := v, sectorPos := 0, drqPos := 0 } := s.withDrive_sel _

/-- Registers written after the acceptance of a byte replace the accepted ones. -/
@[simp] theorem acceptCommand_withDrive (v : Byte) (x : Drive) : (acceptCommand v s).withDrive x = s.withDrive x :=
  s.withDrive_withDrive _ x

/-- A command of both protocols reaches its `Exec` on every installed drive. -/
theorem dispatchCommand_bothProtocols {v : Byte} {run : State → Result} (accepting : Accepting s)
    (installed : s.selCfg.installed = true) :
    dispatchCommand v [.ata, .atapi] false run s = run (acceptCommand v s) := by
  refine dispatchCommand_runs accepting installed ?_ (Bool.and_false _)
  cases s.selCfg.protocol <;> rfl

/-- A command of the drive's own protocol reaches its `Exec` where it is not handed over. -/
theorem dispatchCommand_ownProtocol {v : Byte} {p : Protocol} {b : Bool} {run : State → Result}
    (accepting : AcceptingCommand s p) (immediate : (s.cfg.defer && b) = false) :
    dispatchCommand v [p] b run s = run (acceptCommand v s) := by
  obtain ⟨accepting, installed, rfl⟩ := accepting
  exact dispatchCommand_runs accepting installed (by simp) immediate

/-- A drive that is not installed answers every byte alike (41_ata_commands.md R189). -/
theorem dispatchCommand_absent {v : Byte} {ps : List Protocol} {b : Bool} {run : State → Result}
    (accepting : Accepting s) (absent : s.selCfg.installed = false) :
    dispatchCommand v ps b run s = .next (raiseError .absent s) := by
  rw [dispatchCommand, hostWrite_performed accepting, absent]
  rfl

/-- A byte of the other protocol is accepted, then aborted (41_ata_commands.md R172). -/
theorem dispatchCommand_wrongProtocol {v : Byte} {ps : List Protocol} {b : Bool} {run : State → Result}
    (accepting : Accepting s) (installed : s.selCfg.installed = true)
    (wrong : ps.contains s.selCfg.protocol = false) :
    dispatchCommand v ps b run s = .next (raiseError .abort (acceptCommand v s)) := by
  have hcfg : (acceptCommand v s).selCfg = s.selCfg := rfl
  simp only [dispatchCommand, hostWrite_performed accepting, installed, hcfg, wrong, Bool.not_true, Bool.not_false,
    Bool.false_eq_true, if_false, if_true]

/-- A deferrable command of a deferring block is handed over (41_ata_commands.md R171). -/
theorem dispatchCommand_defers {v : Byte} {p : Protocol} {run : State → Result} (accepting : AcceptingCommand s p)
    (deferring : s.cfg.defer = true) :
    dispatchCommand v [p] true run s = .next (deferCommand v (acceptCommand v s)) := by
  obtain ⟨accepting, installed, rfl⟩ := accepting
  have hcfg : (acceptCommand v s).selCfg = s.selCfg := rfl
  have hdefer : (acceptCommand v s).cfg = s.cfg := rfl
  have known : [s.selCfg.protocol].contains s.selCfg.protocol = true := by simp
  simp only [dispatchCommand, hostWrite_performed accepting, installed, hcfg, known, hdefer, deferring, Bool.not_true,
    Bool.false_eq_true, if_false, Bool.and_self, if_true]

/-! ## The rows of the command map (30_encoding.md R102) -/

theorem exec_readSector (s : State) :
    exec .readSector s = dispatchCommand 0x20 [.ata] true (fun u => .next (readSectorBody u)) s := rfl

theorem exec_writeSector (s : State) :
    exec .writeSector s = dispatchCommand 0x30 [.ata] true (fun u => .next (writeSectorBody u)) s := rfl

theorem exec_packet (s : State) :
    exec .packet s = dispatchCommand 0xA0 [.atapi] false (fun u => .next (packetBody u)) s := rfl

theorem exec_identifyPacket (s : State) :
    exec .identifyPacket s = dispatchCommand 0xA1 [.atapi] false (fun u => .next (identifyBody u)) s := rfl

theorem exec_readDma (s : State) : exec .readDma s = dispatchCommand 0xC8 [.ata] true dmaBody s := rfl

theorem exec_writeDma (s : State) : exec .writeDma s = dispatchCommand 0xCA [.ata] true dmaBody s := rfl

theorem exec_standbyImmediate (s : State) : exec .standbyImmediate s =
    dispatchCommand 0xE0 [.ata, .atapi] false (fun u => .next (completeCommand u)) s := rfl

theorem exec_sleep (s : State) :
    exec .sleep s = dispatchCommand 0xE6 [.ata, .atapi] false (fun u => .next (completeCommand u)) s := rfl

theorem exec_flushCache (s : State) :
    exec .flushCache s = dispatchCommand 0xE7 [.ata, .atapi] false (fun u => .next (flushCacheBody u)) s := rfl

theorem exec_identify (s : State) :
    exec .identify s = dispatchCommand 0xEC [.ata] false (fun u => .next (identifyBody u)) s := rfl

theorem exec_setFeatures (s : State) :
    exec .setFeatures s = dispatchCommand 0xEF [.ata, .atapi] false (fun u => .next (setFeaturesBody u)) s := rfl

theorem exec_ataUnknown (v : Byte) (s : State) : exec (.ataUnknown v) s =
    dispatchCommand v [.ata, .atapi] false (fun u => .next (raiseError .abort u)) s := rfl

/-- The protocols of the drives on which a byte executes (41_ata_commands.md R172). -/
def commandProtocols (v : Byte) : List Protocol :=
  if v ∈ ([0xEC, 0x20, 0x30, 0xC8, 0xCA] : List Byte) then [.ata]
  else if v ∈ ([0xA0, 0xA1] : List Byte) then [.atapi]
  else [.ata, .atapi]

theorem commandProtocols_ata :
    ∀ v ∈ [0xEC#8, 0x20#8, 0x30#8, 0xC8#8, 0xCA#8], commandProtocols v = [.ata] := by decide

theorem commandProtocols_atapi : ∀ v ∈ [0xA0#8, 0xA1#8], commandProtocols v = [.atapi] := by decide

/-- A byte that is no command executes, as an abort, on both. -/
theorem commandProtocols_unknown {v : Byte} (unnamed : v ∉ ataOpcodes) : commandProtocols v = [.ata, .atapi] := by
  have ata : ([0xEC, 0x20, 0x30, 0xC8, 0xCA] : List Byte) ⊆ ataOpcodes := by decide
  have atapi : ([0xA0, 0xA1] : List Byte) ⊆ ataOpcodes := by decide
  rw [commandProtocols, if_neg fun named => unnamed (ata named), if_neg fun named => unnamed (atapi named)]

/-- Every byte goes through the dispatcher, with the protocols of its row. -/
theorem exec_decodeAta (v : Byte) :
    ∃ b run, ∀ s, exec (decodeAta v) s = dispatchCommand v (commandProtocols v) b run s := by
  by_cases named : v ∈ ataOpcodes
  · simp only [ataOpcodes, List.mem_cons, List.not_mem_nil, or_false] at named
    obtain rfl | rfl | rfl | rfl | rfl | rfl | rfl | rfl | rfl | rfl | rfl := named
    · exact ⟨_, _, exec_readSector⟩
    · exact ⟨_, _, exec_writeSector⟩
    · exact ⟨_, _, exec_packet⟩
    · exact ⟨_, _, exec_identifyPacket⟩
    · exact ⟨_, _, exec_readDma⟩
    · exact ⟨_, _, exec_writeDma⟩
    · exact ⟨_, _, exec_standbyImmediate⟩
    · exact ⟨_, _, exec_sleep⟩
    · exact ⟨_, _, exec_flushCache⟩
    · exact ⟨_, _, exec_identify⟩
    · exact ⟨_, _, exec_setFeatures⟩
  · rw [decodeAta_unknown (by simpa using named), commandProtocols_unknown named]
    exact ⟨_, _, exec_ataUnknown v⟩

/-! ## Completions and aborts -/

/-- A command that completes without data: the accepted byte, error `0x00`, status `0x40`, idle, one interrupt. -/
theorem completeCommand_accepted (v : Byte) (s : State) :
    completeCommand (acceptCommand v s) = raiseInterrupt (s.withDrive { s.sel with
      command := v, sectorPos := 0, drqPos := 0, error := 0x00, status := 0x40, state := .idle }) := by
  rw [completeCommand, acceptCommand_withDrive, acceptCommand_sel]
  rfl

/-- A command that is aborted: the accepted byte, error `0x04`, status `0x41`, idle, one interrupt. -/
theorem abort_accepted (v : Byte) (s : State) :
    raiseError .abort (acceptCommand v s) = raiseInterrupt (s.withDrive { s.sel with
      command := v, drqPos := 0, status := 0x41, error := 0x04, state := .idle, sectorPos := 0 }) := by
  rw [raiseError, acceptCommand_withDrive, acceptCommand_sel]
  rfl

/-- Settles O38: both bytes complete on any installed drive, and the interrupt leaves the block accepting. -/
theorem standbyAndSleepComplete : Obligations.StandbyAndSleepComplete := by
  intro s accepting installed
  have completes (v : Byte) :
      dispatchCommand v [.ata, .atapi] false (fun u => .next (completeCommand u)) s =
        .next (raiseInterrupt (s.withDrive { s.sel with
          command := v, sectorPos := 0, drqPos := 0, error := 0x00, status := 0x40, state := .idle })) := by
    rw [dispatchCommand_bothProtocols accepting installed, completeCommand_accepted]
  have still (x : Drive) : Accepting (raiseInterrupt (s.withDrive x)) := by
    rw [Accepting, raiseInterrupt_fault, raiseInterrupt_slot]
    exact accepting
  exact ⟨⟨rfl, completes 0xE0, still _⟩, ⟨rfl, completes 0xE6, still _⟩⟩

/-- The three calls of FLUSH_CACHE in order, the lock given back. -/
theorem flushCalls_eq (s : State) :
    deviceRelease (deviceFlush (deviceAcquire s)) = { s with
      locks := s.locks.set s.selectedDrive false
      events := .device s.selectedDrive .release :: .device s.selectedDrive .flush ::
        .device s.selectedDrive .acquire :: s.events } := by
  simp [deviceRelease, deviceFlush, deviceAcquire, deviceCall, State.emit, State.withLock]

/-- Settles O39: FLUSH_CACHE completes after its calls, SET_FEATURES by the membership of its sub-code. -/
theorem flushAndSetFeatures : Obligations.FlushAndSetFeatures := by
  intro s accepting installed
  have setFeatures : exec .setFeatures s = .next (setFeaturesBody (acceptCommand 0xEF s)) :=
    (exec_setFeatures s).trans (dispatchCommand_bothProtocols accepting installed)
  have code : (acceptCommand 0xEF s).sel.feature = s.sel.feature := by rw [acceptCommand_sel]
  have features : (acceptCommand 0xEF s).cfg.features = s.cfg.features := rfl
  refine ⟨?_, fun supported => ?_, fun unsupported => ?_⟩
  · rw [exec_flushCache, dispatchCommand_bothProtocols accepting installed]
    rw [flushCacheBody, flushCalls_eq, completeCommand]
    simp [acceptCommand, State.withDrive, State.sel, errorNone, statusReady]
  · rw [setFeatures, setFeaturesBody, code, features, if_pos (List.contains_iff_mem.mpr supported),
      completeCommand_accepted]
  · rw [setFeatures, setFeaturesBody, code, features, if_neg (mt List.contains_iff_mem.mp unsupported),
      abort_accepted]

/-- Settles O47: the bytes of the other protocol and the unknown ones abort; an absent drive ignores the byte. -/
theorem refusedCommandsAbort : Obligations.RefusedCommandsAbort := by
  intro s accepting
  have unknown (installed : s.selCfg.installed = true) (v : Byte) :
      exec (.ataUnknown v) s = .next (raiseError .abort (acceptCommand v s)) :=
    (exec_ataUnknown v s).trans (dispatchCommand_bothProtocols accepting installed)
  refine ⟨fun installed v refused => ?_, fun absent v => ?_, fun installed v => ?_⟩
  · rw [← abort_accepted]
    have wrong (h : (commandProtocols v).contains s.selCfg.protocol = false) :
        exec (decodeAta v) s = .next (raiseError .abort (acceptCommand v s)) := by
      obtain ⟨b, run, dispatched⟩ := exec_decodeAta v
      rw [dispatched, dispatchCommand_wrongProtocol accepting installed h]
    obtain ⟨protocol, named⟩ | ⟨protocol, named⟩ | unnamed := refused
    · exact wrong (by rw [protocol, commandProtocols_atapi v named]; rfl)
    · exact wrong (by rw [protocol, commandProtocols_ata v named]; rfl)
    · rw [decodeAta_unknown (by simpa using unnamed), unknown installed v]
  · obtain ⟨b, run, dispatched⟩ := exec_decodeAta v
    rw [dispatched, dispatchCommand_absent accepting absent]
    rfl
  · rw [unknown installed v, abort_accepted]

/-! ## PACKET and the identify block -/

/-- Settles O46: the hand-over of a deferring block is for other commands, so the body runs at once. -/
theorem packetCommandArms : Obligations.PacketCommandArms := by
  refine ⟨rfl, fun s accepting => ?_⟩
  rw [exec_packet, dispatchCommand_ownProtocol accepting (Bool.and_false _)]
  simp [packetBody, acceptCommand, State.withDrive, State.withCd, State.sel, State.selCd, reasonPacket, errorNone,
    statusData]

/-- The two items of a pair stand at twice its index. -/
theorem getElem?_flatMap_pair {α β : Type} (f g : α → β) (l : List α) (k : Nat) :
    (l.flatMap fun a => [f a, g a])[2 * k]? = l[k]?.map f ∧
      (l.flatMap fun a => [f a, g a])[2 * k + 1]? = l[k]?.map g := by
  induction l generalizing k with
  | nil => simp
  | cons a l ih =>
    cases k with
    | zero => simp
    | succ k => simpa [Nat.mul_succ] using ih k

theorem identifyBytes_length (c : DriveConfig) : (identifyBytes c).length = 512 := by
  rw [identifyBytes, List.length_flatMap]
  simp only [List.length_cons, List.length_nil, List.map_const', List.length_range, List.sum_replicate]
  rfl

/-- Word `k` of the identify block, low byte first (20_memory.md R70). -/
theorem identifyBytes_word (c : DriveConfig) {k : Nat} (hk : k < 256) :
    (identifyBytes c).getD (2 * k) 0 = byteOf (c.identifyWord k) 0 ∧
      (identifyBytes c).getD (2 * k + 1) 0 = byteOf (c.identifyWord k) 1 := by
  obtain ⟨low, high⟩ := getElem?_flatMap_pair (fun i => byteOf (c.identifyWord i) 0)
    (fun i => byteOf (c.identifyWord i) 1) (List.range 256) k
  rw [List.getElem?_range hk] at low high
  simp only [List.getD_eq_getElem?_getD, identifyBytes, low, high, Option.map_some, Option.getD_some, and_self]

/-- A word of the block, read back from a buffer with room for it. -/
theorem identifyWord_stored (cap : Nat) (buf : List Byte) (c : DriveConfig) (room : 512 ≤ cap) {k : Nat}
    (hk : k < 256) :
    bufferByte (bufferPut cap buf 0 (identifyBytes c)) (2 * k + 1) ++
      bufferByte (bufferPut cap buf 0 (identifyBytes c)) (2 * k) = c.identifyWord k := by
  have stored (i : Nat) (hi : i < 512) :
      bufferByte (bufferPut cap buf 0 (identifyBytes c)) i = (identifyBytes c).getD i 0 := by
    simpa using bufferByte_put_inside cap buf 0 (identifyBytes c) i (by rwa [identifyBytes_length])
      (by rwa [identifyBytes_length, Nat.zero_add])
  obtain ⟨low, high⟩ := identifyBytes_word c hk
  rw [stored _ (by omega), stored _ (by omega), low, high]
  exact le16_bytes (c.identifyWord k)

/-- What both identify commands do with the registers of the drive that accepted them. -/
theorem identifyBody_accepted (v : Byte) (s : State) :
    identifyBody (acceptCommand v s) = raiseInterrupt (s.withDrive { s.sel with
      command := v, sectorPos := 0, drqPos := 0
      buffer := bufferPut s.cfg.maxBlock s.sel.buffer 0 (identifyBytes s.selCfg)
      unitSize := 512, error := 0x00, status := 0x48, state := .pioRead }) := by
  have hcfg : (acceptCommand v s).selCfg = s.selCfg := rfl
  have hblock : (acceptCommand v s).cfg = s.cfg := rfl
  simp only [identifyBody, State.putBuffer, State.withDrive_withDrive, State.withDrive_sel,
    acceptCommand_withDrive, acceptCommand_sel, hcfg, hblock]
  rfl

/-- Settles O40: both commands run the same body at once; the words are read back from the bytes stored. -/
theorem identifyLoadsBlock : Obligations.IdentifyLoadsBlock := by
  intro s v i p named accepting
  have answer : exec i s = .next (identifyBody (acceptCommand v s)) := by
    obtain ⟨rfl, rfl, rfl⟩ | ⟨rfl, rfl, rfl⟩ := named
    · exact (exec_identify s).trans (dispatchCommand_ownProtocol accepting (Bool.and_false _))
    · exact (exec_identifyPacket s).trans (dispatchCommand_ownProtocol accepting (Bool.and_false _))
  have buffer : (identifyBody (acceptCommand v s)).sel.buffer =
      bufferPut s.cfg.maxBlock s.sel.buffer 0 (identifyBytes s.selCfg) := by
    rw [identifyBody_accepted, raiseInterrupt_sel, State.withDrive_sel]
  refine ⟨_, answer, ?_, fun room k hk => ?_⟩
  · rw [buffer, identifyBody_accepted]
  · rw [buffer]
    exact identifyWord_stored _ _ _ room hk

/-! ## The commands that address the medium -/

/-- The address of the accepted command is that of the task file. -/
theorem unitAddressable_accepted (v : Byte) :
    unitAddressable (acceptCommand v s) = true ↔
      addressOk s.selCfg s.sel = true ∧ makeLogical s.selCfg s.sel < s.selCfg.capacity := by
  rw [unitAddressable_iff, acceptCommand_sel]
  rfl

theorem rangeAddressable_accepted (v : Byte) :
    rangeAddressable (acceptCommand v s) = true ↔
      addressOk s.selCfg s.sel = true ∧ makeLogical s.selCfg s.sel + sectorCountOf s.sel ≤ s.selCfg.capacity := by
  simp only [rangeAddressable, acceptCommand_sel, Bool.and_eq_true, decide_eq_true_eq]
  rfl

/-- Settles O41: the three ends of `LoadUnit` on the accepted registers. -/
theorem readSectorLoadsUnit : Obligations.ReadSectorLoadsUnit := by
  intro s accepting immediate x lba ok r
  have answer : exec .readSector s = .next (readSectorBody (acceptCommand 0x20 s)) :=
    (exec_readSector s).trans (dispatchCommand_ownProtocol accepting (by rw [immediate]; rfl))
  have addressable : unitAddressable (acceptCommand 0x20 s) = true ↔ ok := unitAddressable_accepted 0x20
  have hread : readBlockAt (makeLogical (acceptCommand 0x20 s).selCfg (acceptCommand 0x20 s).sel) 512
      (acceptCommand 0x20 s) = r := by
    rw [acceptCommand_sel]
    rfl
  refine ⟨fun outside => ?_, fun inside short => ?_, fun bs inside block => ?_⟩
  · rw [answer, readSectorBody, loadUnit_outside (mt addressable.mp outside)]
    rfl
  · rw [answer, readSectorBody, loadUnit_short (addressable.mpr inside) (by rwa [hread]), hread]
    rfl
  · rw [answer, readSectorBody, loadUnit_read (addressable.mpr inside) (by rwa [hread]), hread, acceptCommand_sel]
    simp only [Attempt.andThen, State.withDrive_sel, State.withDrive_withDrive]
    rfl

/-- Settles O42: the address decides between the open phase and the abort. -/
theorem writeSectorOpensPhase : Obligations.WriteSectorOpensPhase := by
  intro s accepting immediate x ok
  have answer : exec .writeSector s = .next (writeSectorBody (acceptCommand 0x30 s)) :=
    (exec_writeSector s).trans (dispatchCommand_ownProtocol accepting (by rw [immediate]; rfl))
  have addressable : unitAddressable (acceptCommand 0x30 s) = true ↔ ok := unitAddressable_accepted 0x30
  refine ⟨fun inside => ?_, fun outside => ?_⟩
  · rw [answer, writeSectorBody, if_pos (addressable.mpr inside), acceptCommand_withDrive, acceptCommand_sel]
    rfl
  · rw [answer, writeSectorBody, if_neg (mt addressable.mp outside)]
    rfl

/-- A DMA command is dispatched like the other one: only the byte tells them apart (41_ata_commands.md R182). -/
theorem exec_dmaCommand {v : Byte} {i : Instr} (named : (v = 0xC8 ∧ i = .readDma) ∨ (v = 0xCA ∧ i = .writeDma)) :
    exec i s = dispatchCommand v [.ata] true dmaBody s := by
  obtain ⟨rfl, rfl⟩ | ⟨rfl, rfl⟩ := named
  · exact exec_readDma s
  · exact exec_writeDma s

/-- With START clear a DMA command whose range is on the medium is armed and waits (43_busmaster_dma.md R247). -/
theorem dmaBody_waits (inside : rangeAddressable s = true) (stopped : isStart s.bm.command = false) :
    dmaBody s = .next (armDma s) := by
  have hkick : kickCondition (armDma s) = false := by
    rw [kickCondition, show (armDma s).bm = s.bm from rfl, stopped, Bool.and_false]
  rw [dmaBody, if_pos inside, kick_of_not_condition .command hkick]

theorem dmaBody_outside (outside : ¬rangeAddressable s = true) : dmaBody s = .next (raiseError .abort s) := by
  rw [dmaBody, if_neg outside]

/-- What arming writes: the cursor and the count, the open phase, and the device at the first block. -/
theorem armDma_eq (s : State) :
    armDma s = { s.withDrive { s.sel with
        dmaLbaStart := BitVec.ofNat 32 (makeLogical s.selCfg s.sel), dmaLbaCount := sectorCountOf s.sel
        unitSize := 512, sectorPos := 0, error := 0x00, status := 0x48, state := .dmaActive } with
      locks := s.locks.set s.selectedDrive false
      devices := s.devices.set s.selectedDrive { s.selDevice with position := makeLogical s.selCfg s.sel }
      events := .device s.selectedDrive .release :: .device s.selectedDrive (.seek (makeLogical s.selCfg s.sel)) ::
        .device s.selectedDrive .acquire :: s.events } := by
  simp [armDma, deviceRelease, deviceSeek, deviceAcquire, deviceCall, State.emit, State.withLock, State.withDevice,
    State.withDrive, State.selDevice, errorNone, statusData]

/-- Settles O43: the range decides between arming and the abort. -/
theorem dmaCommandsArm : Obligations.DmaCommandsArm := by
  intro s v i named accepting immediate x lba n ok
  have answer : exec i s = dmaBody (acceptCommand v s) := by
    rw [exec_dmaCommand named]
    exact dispatchCommand_ownProtocol accepting (by rw [immediate]; rfl)
  have addressable : rangeAddressable (acceptCommand v s) = true ↔ ok := rangeAddressable_accepted v
  refine ⟨fun inside stopped => ?_, fun outside => ?_⟩
  · rw [answer, dmaBody_waits (addressable.mpr inside) stopped, armDma_eq, acceptCommand_withDrive,
      acceptCommand_sel]
    rfl
  · rw [answer, dmaBody_outside (mt addressable.mp outside)]
    rfl

/-- The four commands are the deferrable ones. -/
theorem exec_deferrable {v : Byte} {i : Instr}
    (named : (v = 0x20 ∧ i = .readSector) ∨ (v = 0x30 ∧ i = .writeSector) ∨ (v = 0xC8 ∧ i = .readDma) ∨
      (v = 0xCA ∧ i = .writeDma))
    (accepting : AcceptingCommand s .ata) (deferring : s.cfg.defer = true) :
    exec i s = .next (deferCommand v (acceptCommand v s)) := by
  obtain ⟨rfl, rfl⟩ | ⟨rfl, rfl⟩ | ⟨rfl, rfl⟩ | ⟨rfl, rfl⟩ := named
  · exact (exec_readSector s).trans (dispatchCommand_defers accepting deferring)
  · exact (exec_writeSector s).trans (dispatchCommand_defers accepting deferring)
  · exact (exec_readDma s).trans (dispatchCommand_defers accepting deferring)
  · exact (exec_writeDma s).trans (dispatchCommand_defers accepting deferring)

/-- Settles O44: BSY goes over the accepted registers, the descriptor into the slot. -/
theorem deferredCommandsAreHandedOver : Obligations.DeferredCommandsAreHandedOver := by
  intro s v i named accepting deferring
  rw [exec_deferrable named accepting deferring, deferCommand, pushSlot, acceptCommand_withDrive, acceptCommand_sel]
  rfl

end Sys2Proof.Machine
end

section
/-!
The advance of the task file (30_encoding.md R106; 41_ata_commands.md R173): which registers each carry writes, and
by how much the logical address grows.
-/

namespace Sys2Proof.Machine

variable {c : DriveConfig} {x : Drive}

/-! ## The head register -/

/-- A new head number stands in bits 3:0. -/
@[simp] theorem headNumber_withHeadNumber (h : Byte) (n : BitVec 4) : headNumber (withHeadNumber h n) = n := by
  apply BitVec.eq_of_getLsbD_eq
  intro i hi
  simp only [headNumber, withHeadNumber, BitVec.getLsbD_extractLsb', BitVec.getLsbD_append]
  simp [hi]

/-- Bits 7:4 are kept. -/
@[simp] theorem withHeadNumber_high (h : Byte) (n : BitVec 4) :
    (withHeadNumber h n).extractLsb' 4 4 = h.extractLsb' 4 4 := by
  apply BitVec.eq_of_getLsbD_eq
  intro i hi
  simp only [withHeadNumber, BitVec.getLsbD_extractLsb', BitVec.getLsbD_append]
  simp [hi]

@[simp] theorem isLba_withHeadNumber (h : Byte) (n : BitVec 4) : isLba (withHeadNumber h n) = isLba h := by
  simp only [isLba, withHeadNumber, BitVec.getLsbD_extractLsb', BitVec.getLsbD_append]
  simp

/-! ## The address and its advance, by addressing mode -/

theorem makeLogical_lba (lba : isLba x.head = true) : makeLogical c x = (lbaAddress x).toNat := if_pos lba

theorem makeLogical_chs (chs : isLba x.head = false) :
    makeLogical c x =
      (x.cylinder.toNat * c.heads + (headNumber x.head).toNat) * c.spt + (x.sectorNumber.toNat - 1) := by
  rw [makeLogical, chs]
  rfl

theorem incAddress_lba (lba : isLba x.head = true) :
    incAddress c x = { x with
      sectorNumber := (lbaAddress x + 1).extractLsb' 0 8
      cylinder := (lbaAddress x + 1).extractLsb' 8 16
      head := withHeadNumber x.head ((lbaAddress x + 1).extractLsb' 24 4) } := if_pos lba

/-- Inside a track the sector number moves. -/
theorem incAddress_sector (chs : isLba x.head = false) (inside : x.sectorNumber.toNat < c.spt) :
    incAddress c x = { x with sectorNumber := x.sectorNumber + 1 } := by
  rw [incAddress, chs, if_neg Bool.false_ne_true, if_neg (by omega)]

/-- At a track's end the next head begins. -/
theorem incAddress_head (chs : isLba x.head = false) (ended : c.spt ≤ x.sectorNumber.toNat)
    (inside : (headNumber x.head).toNat + 1 < c.heads) :
    incAddress c x = { x with sectorNumber := 1, head := withHeadNumber x.head (headNumber x.head + 1) } := by
  rw [incAddress, chs, if_neg Bool.false_ne_true, if_pos (by omega), if_neg (by omega)]

/-- At the end of the last track the next cylinder begins. -/
theorem incAddress_cylinder (chs : isLba x.head = false) (ended : c.spt ≤ x.sectorNumber.toNat)
    (last : c.heads ≤ (headNumber x.head).toNat + 1) :
    incAddress c x =
      { x with sectorNumber := 1, head := withHeadNumber x.head 0, cylinder := x.cylinder + 1 } := by
  rw [incAddress, chs, if_neg Bool.false_ne_true, if_pos (by omega), if_pos last]

/-- The advance keeps bits 7:4 of the head register. -/
theorem incAddress_head_high (c : DriveConfig) (x : Drive) :
    (incAddress c x).head.extractLsb' 4 4 = x.head.extractLsb' 4 4 := by
  unfold incAddress
  dsimp only
  split_ifs
  · exact withHeadNumber_high _ _
  · exact withHeadNumber_high _ _
  · exact withHeadNumber_high _ _
  · rfl

/-! ## The advance is one -/

/-- The three fields of a 28-bit number make it up. -/
theorem lbaFields_append (a : BitVec 28) : a.extractLsb' 24 4 ++ a.extractLsb' 8 16 ++ a.extractLsb' 0 8 = a := by
  apply BitVec.eq_of_getLsbD_eq
  intro i hi
  simp only [BitVec.getLsbD_append, BitVec.getLsbD_extractLsb']
  by_cases low : i < 8
  · simp [low]
  · by_cases middle : i < 24
    · simp [low, show i - 8 < 16 by omega, show 8 + (i - 8) = i by omega]
    · simp [low, show ¬(i - 8 < 16) by omega, show i - 8 - 16 < 4 by omega, show 24 + (i - 8 - 16) = i by omega]

/-- In LBA mode the number in the registers grows by one, modulo 2^28. -/
theorem lbaAddress_incAddress (lba : isLba x.head = true) : lbaAddress (incAddress c x) = lbaAddress x + 1 := by
  rw [incAddress_lba lba]
  simp only [lbaAddress, headNumber_withHeadNumber]
  exact lbaFields_append _

theorem makeLogical_incAddress_lba (lba : isLba x.head = true) (below : (lbaAddress x).toNat + 1 < 2 ^ 28) :
    makeLogical c (incAddress c x) = makeLogical c x + 1 := by
  have mode : isLba (incAddress c x).head = true := by
    rw [incAddress_lba lba]
    simpa using lba
  rw [makeLogical_lba mode, makeLogical_lba lba, lbaAddress_incAddress lba]
  exact BitVec.toNat_add_of_lt below

/-- A register below its last value counts up without a wrap. -/
theorem toNat_succ {n : Nat} {v : BitVec n} (below : v.toNat + 1 < 2 ^ n) : (v + 1).toNat = v.toNat + 1 := by
  have one : (1 : BitVec n).toNat = 1 := by
    exact (BitVec.toNat_ofNat 1 n).trans (Nat.mod_eq_of_lt (by omega))
  rw [BitVec.toNat_add_of_lt (by rwa [one]), one]

/-- In CHS mode a valid address whose cylinder does not wrap grows by one: the last sector of a track is followed by
the first of the next head, and the last head of a cylinder by the first of the next cylinder. -/
theorem makeLogical_incAddress_chs (heads : c.heads ≤ 16) (spt : c.spt ≤ 255) (chs : isLba x.head = false)
    (first : 1 ≤ x.sectorNumber.toNat) (track : x.sectorNumber.toNat ≤ c.spt)
    (head : (headNumber x.head).toNat < c.heads)
    (noWrap : ¬(x.cylinder = 0xFFFF ∧ (headNumber x.head).toNat + 1 = c.heads ∧ x.sectorNumber.toNat = c.spt)) :
    makeLogical c (incAddress c x) = makeLogical c x + 1 := by
  rw [makeLogical_chs chs]
  by_cases inside : x.sectorNumber.toNat < c.spt
  · rw [incAddress_sector chs inside, makeLogical_chs (by exact chs)]
    dsimp only
    rw [toNat_succ (by omega)]
    omega
  have ended : x.sectorNumber.toNat = c.spt := by omega
  have restart : (1 : Byte).toNat - 1 = 0 := rfl
  by_cases more : (headNumber x.head).toNat + 1 < c.heads
  · rw [incAddress_head chs ended.ge more, makeLogical_chs (by simpa using chs)]
    simp only [headNumber_withHeadNumber]
    rw [toNat_succ (by omega), ← Nat.add_assoc, Nat.succ_mul, restart, ended]
    omega
  · have last : (headNumber x.head).toNat + 1 = c.heads := by omega
    have firstHead : (0 : BitVec 4).toNat = 0 := rfl
    have below : x.cylinder.toNat + 1 < 2 ^ 16 := by
      have : x.cylinder ≠ 0xFFFF := fun wraps => noWrap ⟨wraps, last, ended⟩
      bv_omega
    rw [incAddress_cylinder chs ended.ge last.ge, makeLogical_chs (by simpa using chs)]
    simp only [headNumber_withHeadNumber]
    rw [toNat_succ below, Nat.succ_mul, ← last, ← Nat.add_assoc, restart, firstHead, ended, Nat.add_zero,
      Nat.succ_mul]
    omega

/-- Settles O60: by the addressing mode. -/
theorem addressAdvanceIsOne : Obligations.AddressAdvanceIsOne := by
  intro c x _ heads _ spt
  exact ⟨makeLogical_incAddress_lba, makeLogical_incAddress_chs heads spt, incAddress_head_high c x⟩

end Sys2Proof.Machine
end

section
/-!
Deferral (41_ata_commands.md R171; 40_register_access.md R133; 43_busmaster_dma.md R247; 60_exceptions.md R295): what
the worker runs on a handed-over state is what the access would have run, because no body reads the status, the
mailbox, the parameter or the count of the free values.
-/

namespace Sys2Proof.Machine

variable {s t : State} {m : Mailbox} {k : Nat} {w : Walker}

/-! ## Handed-over states -/

/-- The state in a deferring block with `m` in the mailbox and `k` more free values taken. -/
def deferredAs (m : Mailbox) (k : Nat) (s : State) : State :=
  { s with cfg := { s.cfg with defer := true }, slot := m, freeCount := s.freeCount + k }

/-- The state in a deferring block that has handed an operation over: BSY alone and the descriptor `m`. -/
def handedOver (m : Mailbox) (k : Nat) (s : State) : State :=
  deferredAs m k (s.withDrive { s.sel with status := statusBusy })

theorem handedOver_sel (m : Mailbox) (k : Nat) (s : State) :
    (handedOver m k s).sel = { s.sel with status := statusBusy } := s.withDrive_sel _

/-- New registers hide the BSY that was shown. -/
theorem handedOver_withDrive (m : Mailbox) (k : Nat) (s : State) (x : Drive) :
    (handedOver m k s).withDrive x = deferredAs m k (s.withDrive x) :=
  congrArg (deferredAs m k) (s.withDrive_withDrive _ x)

/-- New registers, handed over. -/
theorem withDrive_handedOver (m : Mailbox) (k : Nat) (s : State) (x : Drive) :
    handedOver m k (s.withDrive x) = deferredAs m k (s.withDrive { x with status := statusBusy }) := by
  rw [handedOver, State.withDrive_withDrive, State.withDrive_sel]

theorem raiseInterrupt_deferredAs (m : Mailbox) (k : Nat) (s : State) :
    raiseInterrupt (deferredAs m k s) = deferredAs m k (raiseInterrupt s) := by
  have gates : interruptGated (deferredAs m k s) = interruptGated s := rfl
  unfold raiseInterrupt
  rw [gates]
  split <;> rfl

/-- New registers, then the interrupt. -/
theorem raise_handedOver (m : Mailbox) (k : Nat) (s : State) (x : Drive) :
    raiseInterrupt ((handedOver m k s).withDrive x) = deferredAs m k (raiseInterrupt (s.withDrive x)) := by
  rw [handedOver_withDrive, raiseInterrupt_deferredAs]

/-- An abort writes the status itself. -/
theorem abort_handedOver (m : Mailbox) (k : Nat) (s : State) :
    raiseError .abort (handedOver m k s) = deferredAs m k (raiseError .abort s) := by
  rw [raiseError, raise_handedOver, handedOver_sel]
  rfl

theorem readBlockAt_handedOver (m : Mailbox) (k lba n : Nat) (s : State) :
    readBlockAt lba n (handedOver m k s) =
      (handedOver m k (readBlockAt lba n s).1, (readBlockAt lba n s).2) := by
  rw [readBlockAt_eq, readBlockAt_eq]
  rfl

/-! ## The bodies on a handed-over state -/

/-- How an attempt ends on a handed-over state: BSY stands unless it aborted. -/
def Attempt.handedOver (m : Mailbox) (k : Nat) : Attempt → Attempt
  | .done s => .done (Machine.handedOver m k s)
  | .aborted s => .aborted (deferredAs m k s)

theorem unitAddressable_handedOver (m : Mailbox) (k : Nat) (s : State) :
    unitAddressable (handedOver m k s) = unitAddressable s := by
  simp only [unitAddressable, handedOver_sel]
  rfl

theorem rangeAddressable_handedOver (m : Mailbox) (k : Nat) (s : State) :
    rangeAddressable (handedOver m k s) = rangeAddressable s := by
  simp only [rangeAddressable, handedOver_sel]
  rfl

theorem loadUnit_handedOver (m : Mailbox) (k : Nat) (s : State) :
    loadUnit (handedOver m k s) = (loadUnit s).handedOver m k := by
  have address := unitAddressable_handedOver m k s
  have block : readBlockAt (makeLogical (handedOver m k s).selCfg (handedOver m k s).sel) 512 (handedOver m k s) =
      (handedOver m k (readBlockAt (makeLogical s.selCfg s.sel) 512 s).1,
        (readBlockAt (makeLogical s.selCfg s.sel) 512 s).2) := by
    rw [handedOver_sel, ← readBlockAt_handedOver]
    rfl
  by_cases inside : unitAddressable s = true
  · cases answer : (readBlockAt (makeLogical s.selCfg s.sel) 512 s).2 with
    | none =>
      rw [loadUnit_short inside answer, loadUnit_short (by rwa [address]) (by rwa [block]), block, abort_handedOver]
      rfl
    | some bs =>
      rw [loadUnit_read inside answer, loadUnit_read (by rwa [address]) (by rwa [block]), block, handedOver_withDrive,
        handedOver_sel, Attempt.handedOver, withDrive_handedOver]
      rfl
  · rw [loadUnit_outside inside, loadUnit_outside (by rwa [address]), abort_handedOver]
    rfl

theorem readSectorBody_handedOver (m : Mailbox) (k : Nat) (s : State) :
    readSectorBody (handedOver m k s) = deferredAs m k (readSectorBody s) := by
  rw [readSectorBody, readSectorBody, loadUnit_handedOver]
  cases loadUnit s with
  | done u => simp only [Attempt.handedOver, Attempt.andThen, raise_handedOver, handedOver_sel]
  | aborted u => rfl

theorem continueSector_handedOver (m : Mailbox) (k : Nat) (s : State) :
    continueSector (handedOver m k s) = deferredAs m k (continueSector s) := by
  rw [continueSector, continueSector, loadUnit_handedOver]
  cases loadUnit s with
  | done u => simp only [Attempt.handedOver, Attempt.andThen, raise_handedOver, handedOver_sel]
  | aborted u => rfl

theorem writeSectorBody_handedOver (m : Mailbox) (k : Nat) (s : State) :
    writeSectorBody (handedOver m k s) = deferredAs m k (writeSectorBody s) := by
  rw [writeSectorBody, writeSectorBody, unitAddressable_handedOver, handedOver_withDrive, handedOver_sel,
    abort_handedOver]
  split <;> rfl

theorem armDma_handedOver (m : Mailbox) (k : Nat) (s : State) :
    armDma (handedOver m k s) = deferredAs m k (armDma s) := by
  rw [armDma_eq, armDma_eq, handedOver_sel, handedOver_withDrive]
  rfl

/-! ## The worker's turn on a command -/

/-- The descriptor of a deferred command (41_ata_commands.md R171). -/
def commandSlot (v : Byte) : Mailbox := { op := .write, reg := .cmd, port := 7, data := v.setWidth 32, size := 1 }

theorem workerStep_idle (live : s.fault = none) (idle : s.walk = .idle) : workerStep s = beginOperation s := by
  rw [workerStep, hostAccess_live _ live, idle]

/-- The worker executes the byte in the descriptor. -/
theorem workerStep_command {v : Byte} (live : s.fault = none) (idle : s.walk = .idle) (slot : s.slot = commandSlot v) :
    workerStep s = andThen (execDeferred v s) fun t => .next (finishOperation t) := by
  have byte : (v.setWidth 32).setWidth 8 = v := by simp
  rw [workerStep_idle live idle, beginOperation, slot]
  simp only [commandSlot, byte]

/-- The last turn of an operation frees the mailbox. -/
theorem finishOperation_idle (idle : s.walk = .idle) : finishOperation s = freeSlot s := if_pos idle

/-- `t` is where the command `v` ends from `s`, at once or handed over. -/
structure CommandEnds (v : Byte) (s t : State) : Prop where
  deferred : ∀ m k, execDeferred v (handedOver m k s) = .next (deferredAs m k t)
  cfg : t.cfg = s.cfg
  walk : t.walk = s.walk

theorem walk_of_commandView (view : t.commandView = s.commandView) : t.walk = s.walk := by
  simp only [State.commandView, Prod.mk.injEq] at view
  obtain ⟨-, -, -, -, -, walk, -⟩ := view
  exact walk

theorem CommandEnds.readSector (s : State) : CommandEnds 0x20 s (readSectorBody s) where
  deferred m k := congrArg _ (readSectorBody_handedOver m k s)
  cfg := (OwnWork.readSectorBody s).cfg
  walk := walk_of_commandView (commandView_readSectorBody s)

theorem CommandEnds.writeSector (s : State) : CommandEnds 0x30 s (writeSectorBody s) where
  deferred m k := congrArg _ (writeSectorBody_handedOver m k s)
  cfg := (OwnWork.writeSectorBody s).cfg
  walk := walk_of_commandView (commandView_writeSectorBody s)

/-- Both DMA bytes run the same body. -/
theorem execDeferred_dma {v : Byte} (named : v = 0xC8 ∨ v = 0xCA) (s : State) : execDeferred v s = dmaBody s := by
  obtain rfl | rfl := named <;> rfl

/-- With START clear the DMA body arms or aborts, and either writes the status itself. -/
theorem CommandEnds.dma {v : Byte} (named : v = 0xC8 ∨ v = 0xCA) (stopped : isStart s.bm.command = false)
    (answer : dmaBody s = .next t) : CommandEnds v s t := by
  have range (m : Mailbox) (k : Nat) := rangeAddressable_handedOver m k s
  by_cases inside : rangeAddressable s = true
  · rw [dmaBody_waits inside stopped] at answer
    cases answer
    refine ⟨fun m k => ?_, (OwnWork.armDma s).cfg, walk_of_commandView (commandView_armDma s)⟩
    have waits : dmaBody (handedOver m k s) = .next (armDma (handedOver m k s)) :=
      dmaBody_waits (by rwa [range]) stopped
    rw [execDeferred_dma named, waits, armDma_handedOver]
  · rw [dmaBody_outside inside] at answer
    cases answer
    refine ⟨fun m k => ?_, (OwnWork.raiseError s .abort).cfg, walk_of_commandView (commandView_abort s)⟩
    rw [execDeferred_dma named, dmaBody_outside (by rwa [range]), abort_handedOver]

/-- The worker's turn on a handed-over command. -/
theorem CommandEnds.workerStep {v : Byte} (h : CommandEnds v s t) (live : s.fault = none) (idle : s.walk = .idle)
    (k : Nat) :
    workerStep (handedOver (commandSlot v) k s) = .next (deferredAs { commandSlot v with op := .idle } k t) := by
  have done : (deferredAs (commandSlot v) k t).walk = .idle := h.walk.trans idle
  refine (workerStep_command (s := handedOver (commandSlot v) k s) live idle rfl).trans ?_
  rw [h.deferred, andThen_next, finishOperation_idle done]
  rfl

/-- A deferrable command that starts no walk ends handed over where it ends at once. -/
theorem commandEnds_of_exec {v : Byte} {i : Instr}
    (named : (v = 0x20 ∧ i = .readSector) ∨ (v = 0x30 ∧ i = .writeSector) ∨
      (isStart s.bm.command = false ∧ ((v = 0xC8 ∧ i = .readDma) ∨ (v = 0xCA ∧ i = .writeDma))))
    (accepting : AcceptingCommand s .ata) (immediate : s.cfg.defer = false) (answer : exec i s = .next t) :
    CommandEnds v (acceptCommand v s) t := by
  have runs : (s.cfg.defer && true) = false := by rw [immediate]; rfl
  obtain ⟨rfl, rfl⟩ | ⟨rfl, rfl⟩ | ⟨stopped, dma⟩ := named
  · rw [exec_readSector, dispatchCommand_ownProtocol accepting runs] at answer
    cases answer
    exact .readSector _
  · rw [exec_writeSector, dispatchCommand_ownProtocol accepting runs] at answer
    cases answer
    exact .writeSector _
  · rw [exec_dmaCommand dma, dispatchCommand_ownProtocol accepting runs] at answer
    exact .dma (dma.imp And.left And.left) stopped answer

/-! ## The end of a unit of READ_SECTOR -/

/-- After the last item of a unit comes what the count decides (40_register_access.md R133). -/
theorem exec_ior16Data_unitEnd (live : s.fault = none) (reading : s.sel.state = .pioRead)
    (free : s.sel.status.getLsbD 7 = false) (sectors : s.sel.command = 0x20)
    (ended : s.sel.unitSize ≤ s.sel.sectorPos + 2) :
    exec .ior16Data s = .next (endReadUnit (itemReturned s)) := by
  refine (execIor16Data_open live reading free).trans ?_
  rw [afterDataRead_sector (by rwa [itemReturned_sel]) (by rwa [itemReturned_sel])]

/-- The load of a unit leaves the walk, the data of the read and the count of the free values. -/
theorem loadUnit_keeps (s : State) : (loadUnit s).state.walk = s.walk ∧ (loadUnit s).state.rdata = s.rdata ∧
    (loadUnit s).state.freeCount = s.freeCount := by
  have block : (readBlockAt (makeLogical s.selCfg s.sel) 512 s).1.walk = s.walk ∧
      (readBlockAt (makeLogical s.selCfg s.sel) 512 s).1.rdata = s.rdata ∧
      (readBlockAt (makeLogical s.selCfg s.sel) 512 s).1.freeCount = s.freeCount := by
    rw [readBlockAt_eq]
    exact ⟨rfl, rfl, rfl⟩
  have aborts (u : State) : (raiseError .abort u).walk = u.walk := walk_of_commandView (commandView_abort u)
  by_cases inside : unitAddressable s = true
  · cases answer : (readBlockAt (makeLogical s.selCfg s.sel) 512 s).2 with
    | none =>
      rw [loadUnit_short inside answer]
      simpa [Attempt.state, aborts] using block
    | some bs =>
      rw [loadUnit_read inside answer]
      exact block
  · rw [loadUnit_outside inside]
    simp [Attempt.state, aborts]

theorem continueSector_keeps (s : State) : (continueSector s).walk = s.walk ∧ (continueSector s).rdata = s.rdata ∧
    (continueSector s).freeCount = s.freeCount := by
  have load := loadUnit_keeps s
  rw [continueSector]
  cases h : loadUnit s with
  | done u => simpa [h, Attempt.andThen, Attempt.state] using load
  | aborted u => simpa [h, Attempt.andThen, Attempt.state] using load

/-- The descriptor of a continue-sector load, its data a free value (40_register_access.md R133). -/
def continueSlot (n : Nat) : Mailbox :=
  { op := .read, reg := .cmd, port := 0, data := Config.freeSlotData n, size := 2 }

/-- The worker's turn on a handed-over load. -/
theorem workerStep_continue (live : s.fault = none) (idle : s.walk = .idle) (n k : Nat) :
    workerStep (handedOver (continueSlot n) k s) =
      .next (deferredAs { continueSlot n with op := .idle } k (continueSector s)) := by
  obtain ⟨walk, -, -⟩ := continueSector_keeps s
  have done : (deferredAs (continueSlot n) k (continueSector s)).walk = .idle := walk.trans idle
  have begins : beginOperation (handedOver (continueSlot n) k s) =
      .next (finishOperation (continueSector (handedOver (continueSlot n) k s))) := rfl
  refine (workerStep_idle (s := handedOver (continueSlot n) k s) live idle).trans ?_
  rw [begins, continueSector_handedOver, finishOperation_idle done]
  rfl

/-! ## Walks left to the worker -/

theorem directionAgrees_iff :
    directionAgrees s = true ↔ (s.bm.command.getLsbD 3 = true ↔ s.sel.command ≠ 0xCA) := by
  rw [directionAgrees, isToMemory, beq_iff_eq, Bool.eq_iff_iff, bne_iff_ne]

/-- The kick at the end of a deferred command leaves the walk to the worker's next turns. -/
theorem kick_command_deferred (condition : kickCondition s = true) (deferring : s.cfg.defer = true)
    (agrees : directionAgrees s = true) :
    kick .command s = .next ((s.withDrive { s.sel with status := statusBusy }).withWalk .pending) := by
  simp only [kick, condition, deferring, ifDirectionAgrees, agrees, Bool.not_true, Bool.false_eq_true, if_false,
    if_true]

/-- A turn of a walk keeps the mailbox and the fault latch, and ends the walk or leaves fewer turns to do. -/
structure WalkTurn (w : Walker) (s t : State) : Prop where
  slot : t.slot = s.slot
  fault : t.fault = s.fault
  walk : t.walk = .idle ∨
    ∃ w', t.walk = .running w' ∧ (w.pos < w.unit → w'.pos < w'.unit ∧ w'.turnsLeft < w.turnsLeft)

theorem WalkTurn.dmaError (w : Walker) (s : State) : WalkTurn w s (raiseError (.dma w) s) := by
  refine ⟨raiseError_slot s _, ?_, .inl rfl⟩
  simp only [raiseError, keepCursor]
  split <;> rfl

theorem WalkTurn.dmaDone (w : Walker) (s : State) : WalkTurn w s (dmaDone w s) := by
  unfold Machine.dmaDone finishCursor
  constructor
  all_goals
    dsimp only
    split_ifs <;> simp

theorem WalkTurn.fetchDescriptor (s : State) (awaits : awaitsDescriptor w = true) :
    WalkTurn w s (fetchDescriptor w s) := by
  simp only [awaitsDescriptor, Bool.and_eq_true, Bool.not_eq_true', bne_iff_ne, beq_iff_eq] at awaits
  obtain ⟨⟨⟨sound, -⟩, empty⟩, -⟩ := awaits
  refine ⟨rfl, rfl, .inr ⟨_, rfl, fun inside => ⟨inside, ?_⟩⟩⟩
  simp [Walker.turnsLeft, sound, empty, spanLength_ne_zero]

/-- The walk goes on as `w'` from a state with the mailbox and the fault latch of `s`. -/
def ChunkEnds (w' : Walker) (s t : State) : Prop :=
  ∃ u : State, t = u.withWalk (.running w') ∧ u.slot = s.slot ∧ u.fault = s.fault

theorem chunkToMemory_ends (w : Walker) (n : Nat) (s : State) :
    ChunkEnds (advanceWalker w n) s (chunkToMemory w n s) ∨
      ChunkEnds { w with failed := true } s (chunkToMemory w n s) := by
  unfold chunkToMemory
  split
  · have slot := deviceReadBlock_slot s w.unit
    have fault := deviceReadBlock_fault s w.unit
    split
    · next answer =>
      rw [answer] at slot fault
      exact .inl ⟨_, rfl, slot, fault⟩
    · next answer =>
      rw [answer] at slot fault
      exact .inr ⟨_, rfl, slot, fault⟩
  · exact .inl ⟨_, rfl, rfl, rfl⟩

theorem chunkFromMemory_ends (w : Walker) (n : Nat) (s : State) :
    ChunkEnds (advanceWalker w n) s (chunkFromMemory w n s) ∨
      ChunkEnds { w with failed := true } s (chunkFromMemory w n s) := by
  have slot (u : State) := deviceWriteBlock_slot u (bufferSlice u.sel.buffer 0 w.unit)
  have fault (u : State) := deviceWriteBlock_fault u (bufferSlice u.sel.buffer 0 w.unit)
  specialize slot ((dmaRead w.addr n s).1.putBuffer w.pos (dmaRead w.addr n s).2)
  specialize fault ((dmaRead w.addr n s).1.putBuffer w.pos (dmaRead w.addr n s).2)
  unfold chunkFromMemory
  dsimp only
  split
  · split
    · next answer =>
      rw [answer] at slot fault
      exact .inl ⟨_, rfl, slot, fault⟩
    · next answer =>
      rw [answer] at slot fault
      exact .inr ⟨_, rfl, slot, fault⟩
  · exact .inl ⟨_, rfl, rfl, rfl⟩

/-- A chunk moves its bytes, or its device call answers SHORT. -/
theorem moveChunk_ends (w : Walker) (s : State) :
    ChunkEnds (advanceWalker w (min w.cnt (w.unit - w.pos))) s (moveChunk w s) ∨
      ChunkEnds { w with failed := true } s (moveChunk w s) := by
  unfold moveChunk
  dsimp only
  split
  · exact chunkToMemory_ends w _ s
  · exact chunkFromMemory_ends w _ s

theorem WalkTurn.moveChunk (s : State) (sound : w.failed = false) (units : w.units ≠ 0) (bytes : w.cnt ≠ 0) :
    WalkTurn w s (moveChunk w s) := by
  obtain ⟨u, shape, slot, fault⟩ | ⟨u, shape, slot, fault⟩ := moveChunk_ends w s
  all_goals rw [shape]
  · exact ⟨slot, fault, .inr ⟨_, rfl, fun inside => advanceWalker_turnsLeft sound units bytes (by omega) (by omega)⟩⟩
  · refine ⟨slot, fault, .inr ⟨_, rfl, fun inside => ⟨inside, ?_⟩⟩⟩
    have unit : w.unit ≤ w.units * w.unit := Nat.le_mul_of_pos_left _ (Nat.pos_of_ne_zero units)
    simp only [Walker.turnsLeft, sound, bytes, Bool.false_eq_true, if_true, if_false]
    omega

theorem WalkTurn.walkStep (w : Walker) (s : State) : WalkTurn w s (walkStep w s) := by
  obtain ⟨-, e⟩ | ⟨-, -, e⟩ | ⟨awaits, e⟩ | ⟨sound, units, bytes, e⟩ := walkStep_cases w s
  all_goals rw [e]
  · exact .dmaError w s
  · exact .dmaDone w s
  · exact .fetchDescriptor s awaits
  · exact .moveChunk s sound units bytes

theorem workerStep_running (live : s.fault = none) (running : s.walk = .running w) :
    workerStep s = .next (finishOperation (walkStep w s)) := by
  rw [workerStep, hostAccess_live _ live, running]

/-- Turns of the worker run a walk that is inside its unit to its end, and the last of them frees the mailbox. -/
theorem workerTurns_runWalk (n : Nat) (live : s.fault = none) (running : s.walk = .running w)
    (inside : w.pos < w.unit) (enough : w.turnsLeft ≤ n) :
    ∃ k, workerTurns k s = .next { runWalk n s with slot := { s.slot with op := .idle } } := by
  induction n generalizing s w with
  | zero => exact absurd enough (Nat.not_le_of_lt w.turnsLeft_pos)
  | succ n ih =>
    obtain ⟨slot, fault, ended | ⟨w', goesOn, less⟩⟩ := WalkTurn.walkStep w s
    · refine ⟨1, ?_⟩
      rw [workerTurns_succ, workerStep_running live running, finishOperation_idle ended, runWalk_of_running n running,
        runWalk_of_idle n ended, ← slot]
      rfl
    · obtain ⟨inside', fewer⟩ := less inside
      obtain ⟨k, turns⟩ := ih (fault.trans live) goesOn inside' (by omega)
      refine ⟨k + 1, ?_⟩
      rw [workerTurns_succ, workerStep_running live running,
        finishOperation_of_walk (by rw [goesOn]; exact Walk.noConfusion), runWalk_of_running n running, andThen_next,
        turns, slot]

/-- A new walk over units of at least one byte is inside its unit, and its bound is enough. -/
theorem newWalker_ready (unit : 0 < s.sel.unitSize) :
    (newWalker s).pos < (newWalker s).unit ∧ (newWalker s).turnsLeft ≤ walkFuel (newWalker s) := by
  have sound : (newWalker s).failed = false := rfl
  have start : (newWalker s).pos = 0 := rfl
  have empty : (newWalker s).cnt = 0 := rfl
  refine ⟨unit, ?_⟩
  simp only [Walker.turnsLeft, walkFuel, sound, start, empty, Bool.false_eq_true, if_false, if_true]
  omega

/-- The worker's first turn on a walk that was left to it is the set-up. -/
theorem workerStep_walkHandedOver (live : s.fault = none) (handed : WalkHandedOver s)
    (agrees : directionAgrees s = true) : workerStep s = .next (walkSetup s) := by
  have starts : startDeferredWalk s = .next (walkSetup s) := if_pos agrees
  obtain pending | ⟨idle, op, descriptor⟩ := handed
  · rw [workerStep, hostAccess_live _ live, pending]
    exact starts
  · rw [workerStep_idle live idle, ← starts, beginOperation, op]
    obtain reg | ⟨reg, port⟩ := descriptor
    · rw [reg]
    · rw [reg, port]
      rfl

/-- The worker's turn on a DMA command with START set arms the drive, which shows BSY still, and leaves the walk. -/
theorem workerStep_leavesWalk {v : Byte} (named : v = 0xC8 ∨ v = 0xCA) (live : s.fault = none) (idle : s.walk = .idle)
    (slot : s.slot = commandSlot v) (deferring : s.cfg.defer = true) (start : isStart s.bm.command = true)
    (inside : rangeAddressable s = true) (agrees : directionAgrees s = true) :
    workerStep s =
      .next (((armDma s).withDrive { (armDma s).sel with status := statusBusy }).withWalk .pending) := by
  have sel : (armDma s).sel = { s.sel with
      dmaLbaStart := BitVec.ofNat 32 (makeLogical s.selCfg s.sel), dmaLbaCount := sectorCountOf s.sel
      unitSize := 512, sectorPos := 0, error := errorNone, status := statusData, state := .dmaActive } := by
    simp [armDma]
  have condition : kickCondition (armDma s) = true := by
    rw [kickCondition, sel, show (armDma s).bm = s.bm from rfl, start]
    rfl
  have direction : directionAgrees (armDma s) = true := by
    rw [directionAgrees, sel]
    exact agrees
  rw [workerStep_command live idle slot, execDeferred_dma named, dmaBody, if_pos inside,
    kick_command_deferred condition deferring direction, andThen_next, finishOperation_of_walk Walk.noConfusion]

/-- A walk handed over ends, turn by turn, where the whole walk ends. -/
theorem workerTurns_walkHandedOver (live : s.fault = none) (handed : WalkHandedOver s)
    (agrees : directionAgrees s = true) (unit : 0 < s.sel.unitSize) :
    ∃ n, workerTurns n s = .next { wholeWalk s with slot := { s.slot with op := .idle } } := by
  obtain ⟨inside, enough⟩ := newWalker_ready unit
  obtain ⟨k, turns⟩ := workerTurns_runWalk (s := walkSetup s) (walkFuel (newWalker s)) live rfl inside enough
  refine ⟨k + 1, ?_⟩
  rw [workerTurns_succ, workerStep_walkHandedOver live handed agrees, andThen_next, turns]
  rfl

/-! ## The statement -/

/-- The state in a block that defers, or does not. -/
def withDefer (b : Bool) (s : State) : State := { s with cfg := { s.cfg with defer := b } }

/-- A deferrable command that starts no walk ends with one turn of the worker. -/
theorem deferredCommand_equals {v : Byte} {i : Instr}
    (named : (v = 0x20 ∧ i = .readSector) ∨ (v = 0x30 ∧ i = .writeSector) ∨
      (isStart s.bm.command = false ∧ ((v = 0xC8 ∧ i = .readDma) ∨ (v = 0xCA ∧ i = .writeDma))))
    (accepting : AcceptingCommand s .ata) (idle : s.walk = .idle) (answer : exec i (withDefer false s) = .next t) :
    ∃ m, exec i (withDefer true s) = .next m ∧ m.sel.status = 0x80 ∧ m.slot.op = .write ∧
      workerStep m = .next { t with
        cfg := { s.cfg with defer := true }
        slot := { op := .idle, reg := .cmd, port := 7, data := v.setWidth 32, size := 1 } } := by
  obtain ⟨⟨live, -⟩, -⟩ := id accepting
  have ends : CommandEnds v (acceptCommand v (withDefer false s)) t := commandEnds_of_exec named accepting rfl answer
  have deferrable := named.imp_right (Or.imp_right And.right)
  have hands : exec i (withDefer true s) = .next (handedOver (commandSlot v) 0 (acceptCommand v (withDefer false s))) :=
    exec_deferrable deferrable accepting rfl
  refine ⟨_, hands, ?_, rfl, ?_⟩
  · rw [handedOver_sel]
    rfl
  · rw [ends.workerStep live idle, deferredAs, ends.cfg]
    rfl

/-- So does the load of the next sector (40_register_access.md R133). -/
theorem deferredContinue_equals (live : s.fault = none) (idle : s.walk = .idle) (reading : s.sel.state = .pioRead)
    (free : s.sel.status.getLsbD 7 = false) (sectors : s.sel.command = 0x20)
    (ended : s.sel.unitSize ≤ s.sel.sectorPos + 2) (more : s.sel.sectorCount ≠ 1)
    (answer : exec .ior16Data (withDefer false s) = .next t) :
    ∃ m, exec .ior16Data (withDefer true s) = .next m ∧
      m.sel.status = 0x80 ∧ m.slot.op = .read ∧ m.rdata = t.rdata ∧
      workerStep m = .next { t with
        cfg := { s.cfg with defer := true }
        slot := { op := .idle, reg := .cmd, port := 0, data := m.slot.data, size := 2 }
        freeCount := m.freeCount } := by
  have unitEnd (b : Bool) : exec .ior16Data (withDefer b s) = .next (endReadUnit (itemReturned (withDefer b s))) :=
    exec_ior16Data_unitEnd live reading free sectors ended
  have hands : exec .ior16Data (withDefer true s) =
      .next (handedOver (continueSlot s.freeCount) 1 (unitReturned (withDefer false s))) := by
    rw [unitEnd, endReadUnit_itemReturned, if_neg (by exact more)]
    rfl
  have loads : exec .ior16Data (withDefer false s) = .next (continueSector (unitReturned (withDefer false s))) := by
    rw [unitEnd, endReadUnit_itemReturned, if_neg (by exact more)]
    rfl
  rw [loads] at answer
  cases answer
  obtain ⟨-, rdata, count⟩ := continueSector_keeps (unitReturned (withDefer false s))
  refine ⟨_, hands, ?_, rfl, rdata.symm, ?_⟩
  · rw [handedOver_sel]
    rfl
  · rw [workerStep_continue (s := unitReturned (withDefer false s)) live idle, deferredAs,
      (OwnWork.continueSector _).cfg, count]
    rfl

/-- A DMA command with START set is armed by the worker's turn, which leaves the walk to the next ones. -/
theorem deferredDma_leavesWalk {v : Byte} {i : Instr} (named : (v = 0xC8 ∧ i = .readDma) ∨ (v = 0xCA ∧ i = .writeDma))
    (accepting : AcceptingCommand s .ata) (deferring : s.cfg.defer = true) (idle : s.walk = .idle)
    (start : isStart s.bm.command = true) (inside : rangeAddressable s = true)
    (direction : s.bm.command.getLsbD 3 = true ↔ v = 0xC8) :
    ∃ m, exec i s = .next m ∧
      workerStep m = .next (((armDma m).withDrive { (armDma m).sel with status := statusBusy }).withWalk .pending) := by
  obtain ⟨⟨live, -⟩, -⟩ := id accepting
  have byte : v = 0xC8 ∨ v = 0xCA := named.imp And.left And.left
  have hsel : (deferCommand v (acceptCommand v s)).sel =
      { s.sel with command := v, sectorPos := 0, drqPos := 0, status := statusBusy } := by
    simp [deferCommand, pushSlot, acceptCommand]
  refine ⟨_, exec_deferrable (.inr (.inr named)) accepting deferring, ?_⟩
  refine workerStep_leavesWalk byte live idle rfl deferring start ?_ (directionAgrees_iff.mpr ?_)
  · rw [rangeAddressable, hsel]
    exact inside
  · rw [hsel]
    have other : v = 0xC8 ↔ v ≠ 0xCA := by
      obtain rfl | rfl := byte <;> decide
    exact direction.trans other

/-- Settles O45: a clause for each kind of descriptor. -/
theorem deferredEqualsImmediate : Obligations.DeferredEqualsImmediate := by
  refine ⟨fun s v i named accepting idle t answer => ?_,
    fun s accepting idle reading free sectors ended more t answer => ?_,
    fun s v i named accepting deferring idle start inside direction => ?_, fun s live handed direction unit => ?_⟩
  · exact deferredCommand_equals named accepting idle answer
  · exact deferredContinue_equals accepting.1 idle reading free sectors ended more answer
  · exact deferredDma_leavesWalk named accepting deferring idle start inside direction
  · exact workerTurns_walkHandedOver live handed (directionAgrees_iff.mpr direction) unit

end Sys2Proof.Machine
end

section
/-!
The packet commands (42_atapi_packet.md): what each shared procedure of the handlers does (the ready test, the
byte-count clipping, the fixed payloads, the range of a streamed read), which of them each row runs, and the statements
on the packets that send a fixed payload or end without data.
-/

namespace Sys2Proof.Machine

variable {s : State}

/-! ## The byte-count clipping (42_atapi_packet.md R202, R214) -/

/-- The state after the clipping: what is declared, and the byte count of the first data block. -/
def clipped (reqlen alloclen : Nat) (s : State) : State :=
  (s.withCd { s.selCd with declared := min reqlen alloclen, remainingBytes := min reqlen alloclen }).withDrive
    { s.sel with
      cylinder := BitVec.ofNat 16 (min (adjustedByteCount s.sel.cylinder.toNat alloclen) (min reqlen alloclen)) }

theorem clipped_sel (reqlen alloclen : Nat) (s : State) :
    (clipped reqlen alloclen s).sel = { s.sel with
      cylinder := BitVec.ofNat 16 (min (adjustedByteCount s.sel.cylinder.toNat alloclen) (min reqlen alloclen)) } :=
  State.withDrive_sel _ _

theorem clipped_withDrive (reqlen alloclen : Nat) (x : Drive) (s : State) :
    (clipped reqlen alloclen s).withDrive x =
      (s.withCd { s.selCd with
        declared := min reqlen alloclen, remainingBytes := min reqlen alloclen }).withDrive x :=
  State.withDrive_withDrive _ _ x

/-- A byte count that the odd adjustment leaves at 0 is fatal. -/
theorem atapiStartSend_fatal {alloclen : Nat} (reqlen unit : Nat)
    (zero : adjustedByteCount s.sel.cylinder.toNat alloclen = 0) :
    atapiStartSend reqlen alloclen unit s =
      { s.withDrive { s.sel with cylinder := 0 } with fault := some .byteCountZero } := by
  rw [atapiStartSend, zero]
  rfl

/-- Any other is clamped to what is declared, and the packet completes or its first data block is announced. -/
theorem atapiStartSend_clipped {alloclen : Nat} (reqlen unit : Nat)
    (positive : adjustedByteCount s.sel.cylinder.toNat alloclen ≠ 0) :
    atapiStartSend reqlen alloclen unit s =
      if min reqlen alloclen = 0 then atapiComplete (clipped reqlen alloclen s)
      else armSend unit (clipped reqlen alloclen s) := by
  simp only [atapiStartSend, if_neg positive, withByteCount, State.withDrive_sel, State.withDrive_withDrive]
  rfl

/-- Settles O48: the adjusted count is tested for 0, then what is declared. -/
theorem byteCountClipping : Obligations.ByteCountClipping := by
  intro s reqlen alloclen unit n n1 declared cd
  refine ⟨fun zero => atapiStartSend_fatal reqlen unit zero, fun positive empty => ?_, fun positive send => ?_⟩
  · rw [atapiStartSend_clipped reqlen unit positive, if_pos empty, atapiComplete, clipped_sel, clipped_withDrive]
    rw [show min reqlen alloclen = 0 from empty, Nat.min_zero]
    simp only [cd, empty]
    rfl
  · rw [atapiStartSend_clipped reqlen unit positive, if_neg send, armSend, clipped_sel, clipped_withDrive]
    rfl

/-! ## The ready test (42_atapi_packet.md R218) -/

/-- The state in which a handler that touches the medium goes on: the packet received, the device asked. -/
def deviceAsked (i : Instr) (s : State) : State := deviceCall .isReady (packetReceived (encodePacket i) s)

theorem deliverPacket_ready (waiting : AwaitingPacket s) (ready : s.selDevice.ready = true) (i : Instr)
    (k : State → Result) :
    deliverPacket (encodePacket i) (fun u => checkReady u k) s = k (deviceAsked i s) :=
  (deliverPacket_waiting waiting _ _).trans (if_pos ready)

/-- A device that is not ready ends the packet with NOT READY, MEDIUM NOT PRESENT. -/
theorem deliverPacket_notReady (waiting : AwaitingPacket s) (notReady : s.selDevice.ready = false) (i : Instr)
    (k : State → Result) :
    deliverPacket (encodePacket i) (fun u => checkReady u k) s =
      .next (raiseError (.atapi 0x2 0x3A) (deviceAsked i s)) :=
  (deliverPacket_waiting waiting _ _).trans (if_neg (ne_true_of_eq_false notReady))

/-- A packet that touches the medium of a device that is not ready ends there. -/
theorem exec_notReady (waiting : AwaitingPacket s) {i : Instr} (medium : touchesMedium i = true)
    (notReady : s.selDevice.ready = false) :
    exec i s = .next (raiseError (.atapi 0x2 0x3A) (deviceAsked i s)) := by
  cases i with
  | readToc msf format track alloc | readDvdStructure address layer format alloc | read10 lba len | read12 lba len
  | readCd lba len sub subch => exact deliverPacket_notReady waiting notReady _ _
  | _ => cases medium

/-! ## The tables of contents (42_atapi_packet.md R209) -/

theorem tocOf_table {rows : List ((Bool × BitVec 4 × Byte) × List Byte)} (listed : s.selCfg.toc = .table rows)
    (msf : Bool) (format : BitVec 4) (track : Byte) :
    tocOf msf format track s = (s, rows.lookup (msf, format, track)) := by
  simp only [tocOf, listed, tocPayload]

/-- The default asks for the capacity where it defines the request (log 22). -/
theorem tocOf_singleTrack (single : s.selCfg.toc = .singleTrack) (msf : Bool) (format : BitVec 4) (track : Byte) :
    tocOf msf format track s =
      if format = 0 ∧ msf = false ∧ track.toNat ≤ 1 then
        (deviceCall .getCapacity s, some (singleTrackToc s.selDevice.capacity))
      else (s, none) := by
  simp only [tocOf, single, tocPayload]
  split_ifs <;> rfl

/-! ## The rows that send a fixed payload (42_atapi_packet.md R205 to R210) -/

section
variable (waiting : AwaitingPacket s)
include waiting

theorem exec_requestSense (alloc : Byte) : exec (.requestSense alloc) s =
    .next (sendFixed (sensePayload s.selCd) alloc.toNat (packetReceived (encodePacket (.requestSense alloc)) s)) :=
  deliverPacket_waiting waiting _ _

theorem exec_inquiry (alloc : Byte) : exec (.inquiry alloc) s =
    .next (sendFixed s.selCfg.inquiry alloc.toNat (packetReceived (encodePacket (.inquiry alloc)) s)) :=
  deliverPacket_waiting waiting _ _

theorem exec_modeSense6 (pc : BitVec 2) (page : BitVec 6) (alloc : Byte) : exec (.modeSense6 pc page alloc) s =
    .next (sendIfDefined (s.selCfg.modeSense6.lookup (pc, page)) alloc.toNat
      (packetReceived (encodePacket (.modeSense6 pc page alloc)) s)) :=
  deliverPacket_waiting waiting _ _

theorem exec_modeSense10 (pc : BitVec 2) (page : BitVec 6) (alloc : Half) : exec (.modeSense10 pc page alloc) s =
    .next (sendIfDefined (s.selCfg.modeSense10.lookup (pc, page)) alloc.toNat
      (packetReceived (encodePacket (.modeSense10 pc page alloc)) s)) :=
  deliverPacket_waiting waiting _ _

theorem exec_readToc (ready : s.selDevice.ready = true) (msf : Bool) (format : BitVec 4) (track : Byte)
    (alloc : Half) : exec (.readToc msf format track alloc) s =
      .next (sendIfDefined (tocOf msf format track (deviceAsked (.readToc msf format track alloc) s)).2 alloc.toNat
        (tocOf msf format track (deviceAsked (.readToc msf format track alloc) s)).1) :=
  deliverPacket_ready waiting ready _ _

theorem exec_readDvdStructure (ready : s.selDevice.ready = true) (address : Word) (layer format : Byte)
    (alloc : Half) : exec (.readDvdStructure address layer format alloc) s =
      .next (sendIfDefined (s.selCfg.dvdStruct.lookup (format, layer, address)) alloc.toNat
        (deviceAsked (.readDvdStructure address layer format alloc) s)) :=
  deliverPacket_ready waiting ready _ _

end

/-- Settles O49: each row sends what its parameter defines, READ_TOC by the form of its table. -/
theorem fixedPayloadPackets : Obligations.FixedPayloadPackets := by
  intro s waiting send answer received isReady
  have answered (p : Option (List Byte)) (n : Nat) (u : State) : sendIfDefined p n u = answer p n u := by
    cases p <;> rfl
  refine ⟨exec_requestSense waiting, exec_inquiry waiting, fun pc page alloc => ?_, fun pc page alloc => ?_,
    fun ready => ⟨fun msf format track alloc rows listed => ?_, fun msf format track alloc single => ?_,
      fun address layer format alloc => ?_⟩⟩
  · rw [exec_modeSense6 waiting, answered]
  · rw [exec_modeSense10 waiting, answered]
  · rw [exec_readToc waiting ready, answered, tocOf_table (s := deviceAsked _ s) listed]
    rfl
  · rw [exec_readToc waiting ready, tocOf_singleTrack (s := deviceAsked _ s) single]
    split_ifs <;> rfl
  · rw [exec_readDvdStructure waiting ready, answered]
    rfl

/-! ## Streamed reads up to their range (42_atapi_packet.md R211, R212) -/

theorem streamRange_empty (lba : Word) (ss : Nat) (s : State) :
    streamRange lba 0 ss s = .next (atapiComplete s) := if_pos rfl

theorem streamRange_outside {lba : Word} {len : Nat} (ss : Nat) (positive : len ≠ 0)
    (outside : s.selDevice.capacity < lba.toNat + len) :
    streamRange lba len ss s = .next (raiseError (.atapi 0x5 0x21) (deviceCall .getCapacity s)) :=
  (if_neg positive).trans (if_pos outside)

theorem streamRange_inside {lba : Word} {len : Nat} (ss : Nat) (positive : len ≠ 0)
    (inside : lba.toNat + len ≤ s.selDevice.capacity) :
    streamRange lba len ss s = startStream lba len ss (deviceCall .getCapacity s) :=
  (if_neg positive).trans (if_neg (Nat.not_lt.mpr inside))

/-- What READ_CD does on a ready device with what its sub-command asks for. -/
def answerReadCd (lba : Word) (len : Nat) (request : ReadCdRequest) (s : State) : Result :=
  match request with
  | .stub => .next (stubbedPath s)
  | .noData => .next (atapiComplete s)
  | .sectors ss => streamRange lba len ss s
  | .invalid => .next (invalidField s)

theorem exec_readCd (waiting : AwaitingPacket s) (ready : s.selDevice.ready = true) (lba : Word) (len : BitVec 24)
    (sub : Byte) (subch : BitVec 3) : exec (.readCd lba len sub subch) s =
      answerReadCd lba len.toNat (readCdRequest sub subch) (deviceAsked (.readCd lba len sub subch) s) := by
  refine (deliverPacket_ready waiting ready _ _).trans ?_
  cases readCdRequest sub subch <;> rfl

/-- A sub-command that names no kind of sector asks for an error: the stub where its bit 3 is set. -/
theorem readCdRequest_unnamed {sub : Byte} {subch : BitVec 3} (main : subch = 0)
    (unnamed : sub &&& 0xF8 ∉ [0x00#8, 0x10#8, 0xF8#8]) :
    readCdRequest sub subch = if sub.getLsbD 3 = true then .stub else .invalid := by
  simp only [List.mem_cons, List.not_mem_nil, or_false, not_or] at unnamed
  obtain ⟨h00, h10, hF8⟩ := unnamed
  exact (if_neg (not_not.mpr main)).trans ((if_neg h00).trans ((if_neg h10).trans (if_neg hF8)))

/-- The streamed reads of a ready device go through the same tests, whatever row asks. -/
theorem exec_streamed (waiting : AwaitingPacket s) (ready : s.selDevice.ready = true) {i : Instr} {lba : Word}
    {len ss : Nat} (request : streamRequest i = some (lba, len, ss)) :
    exec i s = streamRange lba len ss (deviceAsked i s) := by
  cases i with
  | read10 _ _ | read12 _ _ =>
    cases request
    exact deliverPacket_ready waiting ready _ _
  | readCd _ _ sub subch =>
    rw [exec_readCd waiting ready]
    simp only [streamRequest] at request
    split at request
    case h_1 sectors =>
      cases request
      rw [sectors]
      rfl
    case h_2 => cases request
  | _ => cases request

/-- Settles O50: the unknown opcode, then the ready test, the range, and what READ_CD asks for. -/
theorem packetsWithoutData : Obligations.PacketsWithoutData := by
  intro s waiting failed received isReady getCapacity done
  refine ⟨fun op => deliverPacket_waiting waiting _ _, fun i medium notReady => exec_notReady waiting medium notReady,
    fun i lba len ss request ready positive outside => ?_, fun i lba ss request ready => ?_,
    fun lba len sub subch ready => ?_⟩
  · exact (exec_streamed waiting ready request).trans (streamRange_outside ss positive outside)
  · exact (exec_streamed waiting ready request).trans (streamRange_empty lba ss _)
  intro i
  have answer {request : ReadCdRequest} (asks : readCdRequest sub subch = request) :
      exec i s = answerReadCd lba len.toNat request (deviceAsked i s) := by
    rw [← asks]
    exact exec_readCd waiting ready lba len sub subch
  have stub (asks : readCdRequest sub subch = .stub) :
      exec i s = .next (if s.cfg.fatalStubs = true then { isReady (received i) with fault := some .unimplemented }
        else failed 0x5 0x24 (isReady (received i))) := answer asks
  refine ⟨fun main empty => ?_, fun main unnamed clear => ?_, ?_⟩
  · exact answer (by rw [readCdRequest, if_neg (not_not.mpr main), if_pos empty])
  · exact answer (by rw [readCdRequest_unnamed main unnamed, if_neg (ne_true_of_eq_false clear)])
  · rintro (other | ⟨unnamed, marked⟩)
    · exact stub (if_pos other)
    · by_cases main : subch = 0
      · exact stub (by rw [readCdRequest_unnamed main unnamed, if_pos marked])
      · exact stub (if_pos main)

end Sys2Proof.Machine
end

section
/-!
The streamed packet reads (42_atapi_packet.md R216, R217; 43_busmaster_dma.md R247): the cursor and the device's calls
as one update, the first sector over PIO, and the kick at the last packet word over DMA.
-/

namespace Sys2Proof.Machine

variable {s : State}

/-! ## The start of the stream -/

theorem packetReceived_eq (b : List Byte) (s : State) :
    packetReceived b s = s.withDrive { s.sel with
      buffer := bufferPut s.cfg.maxBlock s.sel.buffer 0 b, sectorPos := 0 } := by
  simp [packetReceived, State.putBuffer]

/-- The state in which a streamed read of blocks on the medium starts: the packet received, the device asked whether
it is ready, then for its capacity. -/
def streamStart (i : Instr) (s : State) : State := deviceCall .getCapacity (deviceAsked i s)

theorem streamStart_eq (i : Instr) (s : State) :
    streamStart i s = { s.withDrive { s.sel with
        buffer := bufferPut s.cfg.maxBlock s.sel.buffer 0 (encodePacket i), sectorPos := 0 } with
      events := .device s.selectedDrive .getCapacity :: .device s.selectedDrive .isReady :: s.events } := by
  rw [streamStart, deviceAsked, packetReceived_eq]
  rfl

theorem exec_streamedInside (waiting : AwaitingPacket s) (ready : s.selDevice.ready = true) {i : Instr} {lba : Word}
    {len ss : Nat} (request : streamRequest i = some (lba, len, ss)) (positive : len ≠ 0)
    (inside : lba.toNat + len ≤ s.selDevice.capacity) :
    exec i s = startStream lba len ss (streamStart i s) :=
  (exec_streamed waiting ready request).trans (streamRange_inside ss positive inside)

/-! ## The cursor (42_atapi_packet.md R217) -/

theorem recordCursor_eq (lba : Word) (len ss : Nat) (s : State) :
    recordCursor lba len ss s = { s with
      cds := s.cds.set s.selectedDrive
        { s.selCd with sectorSize := ss, nextLba := lba, remainingSectors := BitVec.ofNat 32 len }
      devices := s.devices.set s.selectedDrive { s.selDevice with blockSize := ss }
      events := .device s.selectedDrive (.setMode ss) :: s.events } := by
  simp [recordCursor, deviceSetMode, deviceCall, State.emit, State.withDevice, State.withCd, State.selCd,
    State.selDevice]

theorem recordCursor_selCd (lba : Word) (len ss : Nat) (s : State) :
    (recordCursor lba len ss s).selCd =
      { s.selCd with sectorSize := ss, nextLba := lba, remainingSectors := BitVec.ofNat 32 len } := by
  rw [recordCursor_eq]
  exact Pair.get_set_same _ _ _

theorem recordCursor_selDevice (lba : Word) (len ss : Nat) (s : State) :
    (recordCursor lba len ss s).selDevice = { s.selDevice with blockSize := ss } := by
  rw [recordCursor_eq]
  exact Pair.get_set_same _ _ _

/-! ## Over PIO (42_atapi_packet.md R216) -/

/-- The first sector's block is read: the cursor recorded, the device's calls made, the lock given back. -/
def firstSectorRead (lba : Word) (len ss : Nat) (s : State) : State :=
  { s with
    locks := s.locks.set s.selectedDrive false
    cds := s.cds.set s.selectedDrive
      { s.selCd with sectorSize := ss, nextLba := lba, remainingSectors := BitVec.ofNat 32 len }
    devices := s.devices.set s.selectedDrive { s.selDevice with
      blockSize := ss
      position := if nextIsShort s.selDevice = true then lba.toNat else lba.toNat + 1
      shorts := s.selDevice.shorts.tail }
    events := .device s.selectedDrive .release :: .device s.selectedDrive (.readBlock ss) ::
      .device s.selectedDrive (.seek lba.toNat) :: .device s.selectedDrive .acquire ::
      .device s.selectedDrive (.setMode ss) :: s.events }

/-- The block the recorded cursor stands at. -/
theorem readBlockAt_recordCursor (lba : Word) (len ss : Nat) (s : State) :
    readBlockAt (recordCursor lba len ss s).selCd.nextLba.toNat (recordCursor lba len ss s).selCd.sectorSize
        (recordCursor lba len ss s) =
      (firstSectorRead lba len ss s,
        if nextIsShort s.selDevice = true then none
        else some (blockContent s.selectedDrive s.selDevice lba.toNat ss)) := by
  rw [readBlockAt_eq, recordCursor_selCd, recordCursor_selDevice, recordCursor_eq]
  simp only [firstSectorRead, Pair.set_set]
  rfl

theorem startStream_pio (pio : s.selCd.dma = false) (lba : Word) (len ss : Nat) :
    startStream lba len ss s = .next ((loadNextCdSector (recordCursor lba len ss s)).andThen
      (atapiStartSend (len * ss) (len * ss) ss)) :=
  if_neg (by rw [recordCursor_selCd, pio]; decide)

theorem startStream_pio_short (pio : s.selCd.dma = false) (lba : Word) (len ss : Nat)
    (short : nextIsShort s.selDevice = true) :
    startStream lba len ss s = .next (raiseError .abort (firstSectorRead lba len ss s)) := by
  rw [startStream_pio pio, loadNextCdSector_short (by rw [readBlockAt_recordCursor, if_pos short]),
    readBlockAt_recordCursor]
  rfl

theorem startStream_pio_read (pio : s.selCd.dma = false) (lba : Word) (len ss : Nat)
    (read : nextIsShort s.selDevice = false) :
    startStream lba len ss s = .next (atapiStartSend (len * ss) (len * ss) ss
      (((firstSectorRead lba len ss s).withCd { s.selCd with
        sectorSize := ss, nextLba := lba + 1, remainingSectors := BitVec.ofNat 32 len - 1 }).withDrive { s.sel with
          buffer := bufferPut s.cfg.maxBlock s.sel.buffer 0
            (blockContent s.selectedDrive s.selDevice lba.toNat ss)
          sectorPos := 0
          unitSize := ss })) := by
  rw [startStream_pio pio,
    loadNextCdSector_read (by rw [readBlockAt_recordCursor, if_neg (ne_true_of_eq_false read)]),
    readBlockAt_recordCursor, recordCursor_selCd]
  rfl

/-- Settles O51: the device's answer decides between the abort and the first data block. -/
theorem streamedReadOverPio : Obligations.StreamedReadOverPio := by
  intro s i lba len ss waiting request ready pio positive inside u calls short cd v
  have answer := exec_streamedInside waiting ready request positive inside
  have hu : u = s.withDrive { s.sel with
      buffer := bufferPut s.cfg.maxBlock s.sel.buffer 0 (encodePacket i), sectorPos := 0 } := packetReceived_eq _ _
  have hv : v = firstSectorRead lba len ss (streamStart i s) := by
    simp only [v, hu, streamStart_eq]
    rfl
  refine ⟨fun hshort => ?_, fun read => ?_⟩
  · rw [answer, startStream_pio_short (s := streamStart i s) pio lba len ss hshort, hv]
  · rw [answer, startStream_pio_read (s := streamStart i s) pio lba len ss read, hv, hu, streamStart_eq]
    rfl

/-! ## Over DMA (43_busmaster_dma.md R247, R249) -/

theorem startStream_dma (dma : s.selCd.dma = true) (lba : Word) (len ss : Nat) :
    startStream lba len ss s = kick .packetWord (armStreamDma lba len ss (recordCursor lba len ss s)) :=
  if_pos (by rw [recordCursor_selCd, dma])

/-- What arming writes: the cursor, what is declared, the open phase, and the device at the first block. -/
theorem armStreamDma_recordCursor (lba : Word) (len ss : Nat) (s : State) :
    armStreamDma lba len ss (recordCursor lba len ss s) =
      { s.withDrive { s.sel with
          unitSize := ss, sectorPos := 0, sectorCount := 0x02, error := 0x00, status := 0x48
          state := .dmaActive } with
        locks := s.locks.set s.selectedDrive false
        cds := s.cds.set s.selectedDrive { s.selCd with
          sectorSize := ss, nextLba := lba, remainingSectors := BitVec.ofNat 32 len
          declared := len * ss, remainingBytes := len * ss }
        devices := s.devices.set s.selectedDrive { s.selDevice with blockSize := ss, position := lba.toNat }
        events := .device s.selectedDrive .release :: .device s.selectedDrive (.seek lba.toNat) ::
          .device s.selectedDrive .acquire :: .device s.selectedDrive (.setMode ss) :: s.events } := by
  simp [armStreamDma, recordCursor, deviceRelease, deviceSeek, deviceAcquire, deviceSetMode, deviceCall, State.emit,
    State.withLock, State.withDevice, State.withCd, State.withDrive, State.sel, State.selCd, State.selDevice,
    reasonData, errorNone, statusData]

/-- The descriptor of the last packet word, which lies in the buffer (43_busmaster_dma.md R247). -/
def packetWordDescriptor (s : State) : Mailbox where
  op := .write
  reg := .cmd
  port := 0
  data := (le16 (bufferByte s.sel.buffer 10) (bufferByte s.sel.buffer 11)).setWidth 32
  size := 2

theorem kick_immediate (site : KickSite) (condition : kickCondition s = true) (immediate : s.cfg.defer = false) :
    kick site s = ifDirectionAgrees s (wholeWalk s) := by
  simp only [kick, condition, immediate, Bool.not_true, Bool.not_false, Bool.false_eq_true, if_false, if_true]

theorem kick_packetWord_deferred (condition : kickCondition s = true) (deferring : s.cfg.defer = true)
    (idle : s.slot.op = .idle) :
    kick .packetWord s = ifDirectionAgrees s (pushSlot (packetWordDescriptor s) s) := by
  have free : slotBusy s = false := by rw [slotBusy, idle]; rfl
  simp only [kick, condition, deferring, free, Bool.not_true, Bool.false_eq_true, if_false]
  rfl

theorem ifDirectionAgrees_next (agrees : directionAgrees s = true) (t : State) : ifDirectionAgrees s t = .next t :=
  if_pos agrees

theorem ifDirectionAgrees_refused (mismatch : ¬directionAgrees s = true) (t : State) :
    ifDirectionAgrees s t = .refused .directionMismatch := if_neg mismatch

/-- A kick against the command's direction is refused, whoever would have walked (log 13). -/
theorem kick_packetWord_refused (condition : kickCondition s = true) (idle : s.slot.op = .idle)
    (mismatch : ¬directionAgrees s = true) : kick .packetWord s = .refused .directionMismatch := by
  cases defer : s.cfg.defer
  · rw [kick_immediate _ condition defer, ifDirectionAgrees_refused mismatch]
  · rw [kick_packetWord_deferred condition defer idle, ifDirectionAgrees_refused mismatch]

/-- Byte `k` of a packet in a buffer with room for it. -/
theorem bufferByte_packet (cap : Nat) (buf : List Byte) {b : List Byte} (twelve : b.length = 12) (room : 12 ≤ cap)
    {k : Nat} (hk : k < 12) : bufferByte (bufferPut cap buf 0 b) k = b.getD k 0 := by
  have h := bufferByte_put_inside cap buf 0 b k (by omega) (by omega)
  rwa [Nat.zero_add] at h

theorem encodePacket_length_of_streamRequest {i : Instr} {r : Word × Nat × Nat} (request : streamRequest i = some r) :
    (encodePacket i).length = 12 := by
  cases i with
  | read10 _ _ | read12 _ _ | readCd _ _ _ _ => rfl
  | _ => cases request

/-- Settles O52: START and the direction decide at the kick of the armed drive, and `P_DEFER` who walks. -/
theorem streamedReadOverDma : Obligations.StreamedReadOverDma := by
  intro s i lba len ss waiting request ready dma positive inside u calls armed agrees lastWord
  obtain ⟨⟨-, idle⟩, -⟩ := id waiting
  have hu : u = s.withDrive { s.sel with
      buffer := bufferPut s.cfg.maxBlock s.sel.buffer 0 (encodePacket i), sectorPos := 0 } := packetReceived_eq _ _
  have harmed : armed = armStreamDma lba len ss (recordCursor lba len ss (streamStart i s)) := by
    rw [armStreamDma_recordCursor]
    simp only [armed, hu, streamStart_eq]
    rfl
  have answer : exec i s = kick .packetWord armed := by
    rw [exec_streamedInside waiting ready request positive inside, startStream_dma (s := streamStart i s) dma, harmed]
  have hsel : armed.sel = { s.sel with
      buffer := bufferPut s.cfg.maxBlock s.sel.buffer 0 (encodePacket i)
      unitSize := ss, sectorPos := 0, sectorCount := 0x02, error := 0x00, status := 0x48, state := .dmaActive } := by
    refine (State.withDrive_sel _ _).trans ?_
    rw [hu, State.withDrive_sel]
  have hbm : armed.bm = s.bm := by simp only [armed, hu, State.withDrive_bm]
  have hcfg : armed.cfg = s.cfg := by simp only [armed, hu, State.withDrive_cfg]
  have hslot : armed.slot = s.slot := by simp only [armed, hu, State.withDrive_slot]
  have direction : directionAgrees armed = true ↔ agrees := by
    rw [directionAgrees_iff, hsel, hbm]
  have condition : kickCondition armed = isStart s.bm.command := by
    rw [kickCondition, hsel, hbm]
    rfl
  refine ⟨fun stopped => ?_, fun start immediate agree => ?_, fun start deferring agree room => ?_,
    fun start mismatch => ?_⟩
  · rw [answer, kick_of_not_condition _ (condition.trans stopped)]
  · rw [answer, kick_immediate _ (condition.trans start) (by rwa [hcfg]), ifDirectionAgrees_next (direction.mpr agree)]
  · have byte {k : Nat} (hk : k < 12) : bufferByte armed.sel.buffer k = (encodePacket i).getD k 0 := by
      rw [hsel]
      exact bufferByte_packet _ _ (encodePacket_length_of_streamRequest request) room hk
    have descriptor : packetWordDescriptor armed =
        { op := .write, reg := .cmd, port := 0, data := lastWord.setWidth 32, size := 2 } := by
      rw [packetWordDescriptor, byte (by decide), byte (by decide)]
      rfl
    rw [answer, kick_packetWord_deferred (condition.trans start) (by rwa [hcfg]) (by rwa [hslot]),
      ifDirectionAgrees_next (direction.mpr agree), descriptor]
    rfl
  · rw [answer, kick_packetWord_refused (condition.trans start) (by rwa [hslot]) (mt direction.mp mismatch)]

end Sys2Proof.Machine
end

section
/-!
The byte registers of the bus-master window (43_busmaster_dma.md R240 to R246): what each write leaves in its register,
byte by byte and bit by bit, and an access of two or four bytes as its byte accesses.
-/

namespace Sys2Proof.Machine

variable {s : State}

/-! ## Bytes of a word -/

/-- The bytes of a little-endian word. -/
theorem byteOf_le32 (a b c e : Byte) : byteOf (le32 a b c e) 0 = a ∧ byteOf (le32 a b c e) 1 = b ∧
    byteOf (le32 a b c e) 2 = c ∧ byteOf (le32 a b c e) 3 = e := by
  refine ⟨?_, ?_, ?_, ?_⟩
  all_goals
    apply BitVec.eq_of_getLsbD_eq
    intro i hi
    simp only [le32, byteOf, BitVec.getLsbD_append, BitVec.getLsbD_extractLsb']
    grind

/-- A word is its four bytes. -/
theorem word_ext_bytes {p q : Word} (h : ∀ k, k < 4 → byteOf p k = byteOf q k) : p = q := by
  rw [← le32_bytes p, ← le32_bytes q, h 0 (by decide), h 1 (by decide), h 2 (by decide), h 3 (by decide)]

theorem byteOf_datumOf (bytes : List Byte) {i : Nat} (hi : i < 4) : byteOf (datumOf bytes) i = bytes.getD i 0 := by
  obtain ⟨h0, h1, h2, h3⟩ :=
    byteOf_le32 (bytes.getD 0 0) (bytes.getD 1 0) (bytes.getD 2 0) (bytes.getD 3 0)
  interval_cases i
  · exact h0
  · exact h1
  · exact h2
  · exact h3

/-- The low bytes of a datum survive its truncation. -/
theorem byteOf_setWidth (v : Word) {n k : Nat} (inside : 8 * k + 8 ≤ n) : byteOf (v.setWidth n) k = byteOf v k := by
  apply BitVec.eq_of_getLsbD_eq
  intro i hi
  have low : 8 * k + i < n := by omega
  simp [byteOf, hi, low]

/-- A write of byte `j` of BM_PRDPTR replaces that byte and keeps the other 24 bits (43_busmaster_dma.md R246). -/
theorem byteOf_withPrdByte (p : Word) (v : Byte) {j k : Nat} (hj : j < 4) (hk : k < 4) :
    byteOf (withPrdByte p j v) k = if k = j then v else byteOf p k := by
  apply BitVec.eq_of_getLsbD_eq
  intro i hi
  have ones (m : Nat) : (0xFF#32).getLsbD m = decide (m < 8) := by
    rw [show (0xFF#32) = BitVec.setWidth 32 (BitVec.allOnes 8) by decide, BitVec.getLsbD_setWidth,
      BitVec.getLsbD_allOnes]
    simp
    omega
  simp only [byteOf, withPrdByte, BitVec.getLsbD_extractLsb', BitVec.getLsbD_or, BitVec.getLsbD_and,
    BitVec.getLsbD_not, BitVec.getLsbD_shiftLeft, BitVec.getLsbD_setWidth, ones]
  by_cases same : k = j
  · subst same
    simp [hi, show 8 * k + i < 32 by omega, show i < 32 by omega]
  · grind


/-! ## Plain registers -/

/-- The write of a byte of BM_PRDPTR, as an instruction (43_busmaster_dma.md R246). -/
theorem exec_prdptr {j : Nat} {v : Byte} {i : Instr} (live : s.fault = none)
    (named : (j = 0 ∧ i = .iow8BmPrdptr0 v) ∨ (j = 1 ∧ i = .iow8BmPrdptr1 v) ∨ (j = 2 ∧ i = .iow8BmPrdptr2 v) ∨
      (j = 3 ∧ i = .iow8BmPrdptr3 v)) : j < 4 ∧ exec i s = .next (writeBmPrdByte j v s) := by
  obtain ⟨rfl, rfl⟩ | ⟨rfl, rfl⟩ | ⟨rfl, rfl⟩ | ⟨rfl, rfl⟩ := named
  all_goals exact ⟨by decide, hostAccess_live _ live⟩

/-- Settles O23: each read is one of a register, each write an update of one register or none. -/
theorem busMasterPlainRegisters : Obligations.BusMasterPlainRegisters := by
  intro s offset v a live
  refine ⟨⟨?_, ?_, ?_, ?_, ?_, ?_, ?_, ?_, fun read => ?_⟩, ?_, ?_, fun write => ?_, fun j i named => ?_⟩
  · exact readByte_live s.bm.command live
  · exact readByte_live 0x00 live
  · exact readByte_live (statusView s.bm.status s.irqPending) live
  · exact readByte_live s.bm.udmaTiming live
  · exact readByte_live (byteOf s.bm.prdPtr 0) live
  · exact readByte_live (byteOf s.bm.prdPtr 1) live
  · exact readByte_live (byteOf s.bm.prdPtr 2) live
  · exact readByte_live (byteOf s.bm.prdPtr 3) live
  · refine (hostAccess_live _ live).trans ?_
    rw [read]
    rfl
  · exact hostAccess_live _ live
  · exact hostAccess_live _ live
  · exact (hostAccess_live _ live).trans (if_pos write)
  · obtain ⟨hj, answer⟩ := exec_prdptr live named
    exact ⟨_, answer, rfl, fun k hk => byteOf_withPrdByte s.bm.prdPtr v hj hk⟩

/-! ## BM_STATUS -/

/-- What a write leaves stored, bit by bit: ERROR is cleared by 1, bits 6:5 and the blocked bits are storage
(43_busmaster_dma.md R244). -/
theorem writtenStatus_bit {mask : Byte} (status v : Byte) (apart : mask &&& 0x67 = 0) {i : Nat} (hi : i < 8) :
    (writtenStatus mask status v).getLsbD i =
      if i = 1 then status.getLsbD 1 && !v.getLsbD 1
      else if i = 5 ∨ i = 6 ∨ mask.getLsbD i = true then v.getLsbD i
      else status.getLsbD i := by
  have error : mask.getLsbD 1 = false := by
    have bit : (mask &&& 0x67#8).getLsbD 1 = (0#8).getLsbD 1 := congrArg (BitVec.getLsbD · 1) apart
    simpa using bit
  have cleared : (if v.getLsbD 1 then withoutDmaError status else status).getLsbD i =
      if i = 1 then status.getLsbD 1 && !v.getLsbD 1 else status.getLsbD i := by
    cases v.getLsbD 1 <;> interval_cases i <;> simp [withoutDmaError]
  have plain : (0x60 ||| mask).getLsbD i = decide (i = 5 ∨ i = 6 ∨ mask.getLsbD i = true) := by
    interval_cases i <;> simp
  rw [writtenStatus, BitVec.getLsbD_or, BitVec.getLsbD_and, BitVec.getLsbD_and, BitVec.getLsbD_not, cleared, plain]
  by_cases stored : i = 5 ∨ i = 6 ∨ mask.getLsbD i = true
  · have other : i ≠ 1 := by
      rintro rfl
      exact absurd stored (by rw [error]; decide)
    simp only [other, stored, if_true, if_false, decide_true, Bool.not_true, Bool.and_false, Bool.and_true,
      Bool.false_or]
  · simp only [stored, hi, if_false, decide_false, decide_true, Bool.not_false, Bool.and_true, Bool.and_false,
      Bool.or_false]

/-- The write as an update: writing 1 to INTR is the cancel (60_exceptions.md R281). -/
theorem writeBmStatus_eq (v : Byte) (s : State) : writeBmStatus v s = { s with
    bm := { s.bm with status := writtenStatus s.cfg.iblkMask s.bm.status v }
    irqPending := s.irqPending && !v.getLsbD 2
    irqLine := s.irqLine && !v.getLsbD 2
    events := if v.getLsbD 2 = true then .irqCancel :: s.events else s.events } := by
  unfold writeBmStatus
  cases v.getLsbD 2 with
  | true => simp [cancelInterrupt]
  | false => simp [State.withBm]

/-- Settles O24: the bytes name the register on either channel, and its write is the update above, bit by bit. -/
theorem busMasterStatusWriteBits : Obligations.BusMasterStatusWriteBits := by
  have high : ioHighByte .bm true = 0xA0 := by decide
  have named (cx : DecodeContext) (v : Byte) := decode_bmBytes cx (k := 2) (by decide) (a := .w8 v) rfl
  refine ⟨fun cx v primary => ?_, fun cx v secondary => ?_, fun s v live apart => ?_⟩
  · have h := named cx v
    rwa [primary, show bmBytes .primary 2 (.w8 v) = [0x02, 0xA0, 0x01, v] from
      congrArg (fun b => [0x02, b, 0x01, v]) high] at h
  · have h := named cx v
    rwa [secondary, show bmBytes .secondary 2 (.w8 v) = [0x0A, 0xA0, 0x01, v] from
      congrArg (fun b => [0x0A, b, 0x01, v]) high] at h
  · have answer : exec (.iow8BmStatus v) s = .next (writeBmStatus v s) := hostAccess_live _ live
    refine ⟨_, answer, ?_, fun i hi => ?_⟩
    · rw [writeBmStatus_eq]
    · rw [writeBmStatus_eq]
      exact writtenStatus_bit _ _ apart hi

/-! ## BM_COMMAND -/

/-- The registers after a write of BM_COMMAND that leaves `status` in BM_STATUS. -/
def commandStored (v status : Byte) (s : State) : State :=
  { s with bm := { s.bm with command := v &&& 0x09, status := status } }

/-- A rising START sets ACTIVE and evaluates the kick (43_busmaster_dma.md R242). -/
theorem writeBmCommand_rises {v : Byte} (stopped : s.bm.command.getLsbD 0 = false) (start : v.getLsbD 0 = true) :
    writeBmCommand v s = kick (.startWrite v) (commandStored v (s.bm.status ||| 0x01) s) := by
  simp only [writeBmCommand, isStart, stopped, start]
  rfl

/-- A falling START clears ACTIVE. -/
theorem writeBmCommand_falls {v : Byte} (started : s.bm.command.getLsbD 0 = true) (stop : v.getLsbD 0 = false) :
    writeBmCommand v s = .next (commandStored v (s.bm.status &&& 0xFE) s) := by
  simp only [writeBmCommand, isStart, started, stop]
  rfl

/-- START kept does neither. -/
theorem writeBmCommand_keeps {v : Byte} (same : s.bm.command.getLsbD 0 = v.getLsbD 0) :
    writeBmCommand v s = .next (commandStored v s.bm.status s) := by
  simp only [writeBmCommand, isStart, same, Bool.not_and_self, Bool.and_not_self, Bool.false_eq_true, if_false]
  rfl

theorem exec_iow8BmCommand (live : s.fault = none) (v : Byte) : exec (.iow8BmCommand v) s = writeBmCommand v s :=
  hostAccess_live _ live

/-- Settles O25: by the START bit before and after; the kick of a rising edge finds no drive waiting. -/
theorem busMasterCommandEdges : Obligations.BusMasterCommandEdges := by
  intro s v live waiting
  rw [exec_iow8BmCommand live]
  cases old : s.bm.command.getLsbD 0 <;> cases new : v.getLsbD 0
  · exact writeBmCommand_keeps (old.trans new.symm)
  · have idle : kickCondition (commandStored v (s.bm.status ||| 0x01) s) = false := by
      rw [kickCondition, show (commandStored v (s.bm.status ||| 0x01) s).sel = s.sel from rfl,
        beq_false_of_ne (waiting old new), Bool.false_and]
    exact (writeBmCommand_rises old new).trans (kick_of_not_condition _ idle)
  · exact writeBmCommand_falls old new
  · exact writeBmCommand_keeps (old.trans new.symm)

end Sys2Proof.Machine
end

section
/-!
A bus-master access of two or four bytes as its byte accesses (43_busmaster_dma.md R240): each finds the parameters
and the fault latch as the first did, whatever walk a START among them has run.
-/

namespace Sys2Proof.Machine

variable {s t : State}

/-! ## What no bus-master write changes -/

theorem runWalk_fault (n : Nat) (s : State) : (runWalk n s).fault = s.fault := by
  induction n generalizing s with
  | zero => rfl
  | succ n ih =>
    rw [runWalk]
    split
    · exact (ih _).trans (WalkTurn.walkStep _ _).fault
    · rfl
    · rfl

theorem walkSetup_fault (s : State) : (walkSetup s).fault = s.fault := by simp [walkSetup]

/-- `t` is in the configuration of `s` and as live. -/
def SameBlock (s t : State) : Prop := t.cfg = s.cfg ∧ t.fault = s.fault

theorem SameBlock.kick (site : KickSite) (s : State) : Answers (kick site s) (SameBlock s) := by
  intro t answer
  refine ⟨(OwnWork.kick answer).cfg, ?_⟩
  obtain rfl | ⟨-, rfl⟩ | ⟨-, rfl⟩ | ⟨-, -, m, rfl⟩ := kick_eq_next answer
  · rfl
  · rw [wholeWalk, runWalk_fault, walkSetup_fault]
  · rfl
  · rfl

theorem SameBlock.writeBmCommand (v : Byte) (s : State) : Answers (writeBmCommand v s) (SameBlock s) := by
  unfold Machine.writeBmCommand
  dsimp only
  split_ifs
  · exact SameBlock.kick _ _
  · exact .next ⟨rfl, rfl⟩
  · exact .next ⟨rfl, rfl⟩

theorem SameBlock.bmWriteByte (o : Nat) (v : Byte) (s : State) : Answers (bmWriteByte o v s) (SameBlock s) := by
  unfold Machine.bmWriteByte
  dsimp only
  split
  · exact .next ⟨rfl, rfl⟩
  · split
    · exact SameBlock.writeBmCommand v s
    · exact .next ⟨rfl, rfl⟩
    · rw [writeBmStatus_eq]
      exact .next ⟨rfl, rfl⟩
    all_goals exact .next ⟨rfl, rfl⟩

theorem SameBlock.bmWriteBytes (bs : List Byte) (o : Nat) (s : State) :
    Answers (bmWriteBytes o bs s) (SameBlock s) := by
  induction bs generalizing o s with
  | nil => exact .next ⟨rfl, rfl⟩
  | cons b bs ih =>
    exact (SameBlock.bmWriteByte o b s).andThen fun m ⟨cfg, fault⟩ =>
      (ih (o + 1) m).mono fun t ⟨cfg', fault'⟩ => ⟨cfg'.trans cfg, fault'.trans fault⟩

/-! ## Writes, byte by byte -/

theorem andThen_assoc (r : Result) (k l : State → Result) :
    andThen (andThen r k) l = andThen r fun m => andThen (k m) l := by
  cases r <;> rfl

theorem Answers.andThen_congr {P : State → Prop} {r : Result} {k l : State → Result} (h : Answers r P)
    (same : ∀ m, P m → k m = l m) : Machine.andThen r k = Machine.andThen r l := by
  cases r with
  | next m => exact same m (h m rfl)
  | fault f => rfl
  | refused x => rfl

theorem bmWriteBytes_concat (bs : List Byte) (b : Byte) (o : Nat) (s : State) :
    bmWriteBytes o (bs ++ [b]) s = andThen (bmWriteBytes o bs s) (bmWriteByte (o + bs.length) b) := by
  induction bs generalizing o s with
  | nil => exact andThen_next_right _
  | cons c cs ih =>
    have place : o + (c :: cs).length = o + 1 + cs.length := by simp only [List.length_cons]; omega
    simp only [List.cons_append, bmWriteBytes, andThen_assoc, place]
    exact congrArg _ (funext fun m => ih (o + 1) m)

/-- A byte access `k` places above an offset, as the instruction it decodes to. -/
theorem exec_decodeBm_above {offset : Byte} {k : Nat} (room : offset.toNat + k < 256) (cfg : t.cfg = s.cfg)
    (live : t.fault = none) (a : Access) :
    exec (decodeBm s.cfg.channel (offset + BitVec.ofNat 8 k) a) t = bmAccess (offset.toNat + k) a t := by
  have place : (offset + BitVec.ofNat 8 k).toNat = offset.toNat + k := by
    rw [BitVec.toNat_add, BitVec.toNat_ofNat]
    omega
  rw [← cfg, exec_decodeBm, place, hostAccess_live _ live]

/-- The last byte of a wide write is a byte write of its own. -/
theorem bmWriteBytes_exec {offset : Byte} (live : s.fault = none) (bs : List Byte) (b : Byte)
    (room : offset.toNat + bs.length < 256) :
    bmWriteBytes offset.toNat (bs ++ [b]) s = andThen (bmWriteBytes offset.toNat bs s)
      fun t => exec (decodeBm s.cfg.channel (offset + BitVec.ofNat 8 bs.length) (.w8 b)) t := by
  rw [bmWriteBytes_concat]
  refine (SameBlock.bmWriteBytes bs offset.toNat s).andThen_congr fun m ⟨cfg, fault⟩ => ?_
  rw [exec_decodeBm_above room cfg (fault.trans live), bmAccess_write]

theorem exec_bmMultibyte (live : s.fault = none) (offset : Byte) (a : Access) :
    exec (.bmMultibyte offset a) s = bmAccess offset.toNat a s := hostAccess_live _ live

/-- A wide write of one and of two more bytes than the byte writes before it (43_busmaster_dma.md R240). -/
theorem wideWrite_eq_byteWrites (live : s.fault = none) {offset : Byte} (room : offset.toNat + 3 < 256) (v : Word) :
    let byteWrite := fun (k : Nat) (x : Word) (r : State) =>
      exec (decodeBm s.cfg.channel (offset + BitVec.ofNat 8 k) (.w8 (x.extractLsb' (8 * k) 8))) r
    exec (.bmMultibyte offset (.w16 (v.setWidth 16))) s = andThen (byteWrite 0 v s) (byteWrite 1 v) ∧
      exec (.bmMultibyte offset (.w32 v)) s =
        andThen (andThen (andThen (byteWrite 0 v s) (byteWrite 1 v)) (byteWrite 2 v)) (byteWrite 3 v) := by
  intro byteWrite
  have first : bmWriteBytes offset.toNat [byteOf v 0] s = byteWrite 0 v s :=
    bmWriteBytes_exec live [] (byteOf v 0) (by simp only [List.length_nil]; omega)
  have second : bmWriteBytes offset.toNat [byteOf v 0, byteOf v 1] s = andThen (byteWrite 0 v s) (byteWrite 1 v) := by
    rw [← first]
    exact bmWriteBytes_exec live [byteOf v 0] (byteOf v 1) (by simp only [List.length_cons, List.length_nil]; omega)
  have third : bmWriteBytes offset.toNat [byteOf v 0, byteOf v 1, byteOf v 2] s =
      andThen (andThen (byteWrite 0 v s) (byteWrite 1 v)) (byteWrite 2 v) := by
    rw [← second]
    exact bmWriteBytes_exec live [byteOf v 0, byteOf v 1] (byteOf v 2)
      (by simp only [List.length_cons, List.length_nil]; omega)
  refine ⟨?_, ?_⟩
  · rw [exec_bmMultibyte live, ← second, ← byteOf_setWidth v (n := 16) (k := 0) (by decide),
      ← byteOf_setWidth v (n := 16) (k := 1) (by decide)]
    rfl
  · rw [exec_bmMultibyte live, ← third]
    exact bmWriteBytes_exec live [byteOf v 0, byteOf v 1, byteOf v 2] (byteOf v 3)
      (by simp only [List.length_cons, List.length_nil]; omega)

/-! ## Reads, byte by byte -/

theorem byteOf_bmReadDatum (o n : Nat) (s : State) {i : Nat} (hi : i < 4) :
    byteOf (bmReadDatum o n s) i = if i < n then bmReadByte (o + i) s else 0 := by
  rw [bmReadDatum, byteOf_datumOf _ hi]
  by_cases inside : i < n <;> simp [inside]

theorem bmAccess_wideRead {a : Access} (read : a.isWrite = false) (o : Nat) (s : State) :
    bmAccess o a s = .next (s.returns (bmReadDatum o a.size s)) := by
  rw [bmAccess, read]
  rfl

theorem access_size_le (a : Access) : a.size ≤ 4 := by
  cases a <;> simp [Access.size]

/-! ## BM_PRDPTR whole -/

theorem bmWriteByte_prdptr {j : Nat} (hj : j < 4) {o : Nat} (place : o = s.cfg.channel.base + 4 + j) (v : Byte) :
    bmWriteByte o v s = .next (writeBmPrdByte j v s) := by
  have above : ¬o < s.cfg.channel.base := by omega
  have offset : o - s.cfg.channel.base = 4 + j := by omega
  simp only [bmWriteByte, above, if_false, offset]
  interval_cases j <;> rfl

theorem bmWriteBytes_prdptr {j : Nat} (hj : j < 4) {o : Nat} (place : o = s.cfg.channel.base + 4 + j) (b : Byte)
    (bs : List Byte) : bmWriteBytes o (b :: bs) s = bmWriteBytes (o + 1) bs (writeBmPrdByte j b s) := by
  rw [bmWriteBytes, bmWriteByte_prdptr hj place, andThen_next]

theorem bmReadByte_prdptr {j : Nat} (hj : j < 4) {o : Nat} (place : o = s.cfg.channel.base + 4 + j) :
    bmReadByte o s = byteOf s.bm.prdPtr j := by
  have above : ¬o < s.cfg.channel.base := by omega
  have offset : o - s.cfg.channel.base = 4 + j := by omega
  simp only [bmReadByte, above, if_false, offset]
  interval_cases j <;> rfl

/-- The four bytes of a word written to BM_PRDPTR leave the word there (43_busmaster_dma.md R246). -/
theorem withPrdByte_word (p v : Word) :
    withPrdByte (withPrdByte (withPrdByte (withPrdByte p 0 (byteOf v 0)) 1 (byteOf v 1)) 2 (byteOf v 2)) 3 (byteOf v 3) =
      v := by
  refine word_ext_bytes fun k hk => ?_
  rw [byteOf_withPrdByte _ _ (by decide) hk, byteOf_withPrdByte _ _ (by decide) hk, byteOf_withPrdByte _ _ (by decide) hk,
    byteOf_withPrdByte _ _ (by decide) hk]
  interval_cases k <;> rfl

theorem bmAccess_prdptr (v : Word) (s : State) :
    bmAccess (s.cfg.channel.base + 4) (.w32 v) s = .next { s with bm := { s.bm with prdPtr := v } } ∧
      bmAccess (s.cfg.channel.base + 4) .r32 s = .next { s with rdata := s.bm.prdPtr } := by
  refine ⟨?_, ?_⟩
  · have bytes : bmAccess (s.cfg.channel.base + 4) (.w32 v) s =
        bmWriteBytes (s.cfg.channel.base + 4) [byteOf v 0, byteOf v 1, byteOf v 2, byteOf v 3] s := rfl
    rw [bytes, bmWriteBytes_prdptr (j := 0) (by decide) rfl]
    refine (bmWriteBytes_prdptr (j := 1) (by decide) (by rfl) _ _).trans ?_
    refine (bmWriteBytes_prdptr (j := 2) (by decide) (by rfl) _ _).trans ?_
    refine (bmWriteBytes_prdptr (j := 3) (by decide) (by rfl) _ _).trans ?_
    exact congrArg (fun p => Host.Outcome.next { s with bm := { s.bm with prdPtr := p } })
      (withPrdByte_word s.bm.prdPtr v)
  · have word : bmReadDatum (s.cfg.channel.base + 4) 4 s = s.bm.prdPtr := word_ext_bytes fun k hk => by
      rw [byteOf_bmReadDatum _ _ _ hk, if_pos hk, bmReadByte_prdptr hk rfl]
    rw [bmAccess_wideRead rfl]
    exact congrArg (fun v => Host.Outcome.next (s.returns v)) word

/-- Settles O26: the bytes of the data, of the datum and of BM_PRDPTR one by one. -/
theorem wideAccessesAreByteAccesses : Obligations.WideAccessesAreByteAccesses := by
  intro s offset a v live byteWrite
  refine ⟨fun room => wideWrite_eq_byteWrites live room v, fun read room => ?_, fun idle => ⟨?_, fun place => ?_⟩⟩
  · have size := access_size_le a
    refine ⟨_, (exec_bmMultibyte live offset a).trans (bmAccess_wideRead read _ s), rfl, fun i hi => ?_, fun i low hi => ?_⟩
    · refine ⟨_, (exec_decodeBm_above (by omega) rfl live .r8).trans (bmAccess_read _ s), ?_⟩
      refine (byteOf_bmReadDatum _ _ s (by omega)).trans ?_
      rw [if_pos hi, State.returns_rdata]
      simp
    · exact (byteOf_bmReadDatum _ _ s hi).trans (if_neg (by omega))
  · rw [exec_bmMultibyte live]
    exact bmAccess_completes idle _ a
  · rw [exec_bmMultibyte live, exec_bmMultibyte live, place]
    exact bmAccess_prdptr v s

end Sys2Proof.Machine
end

section
/-!
The turns of a walk as updates of the state (43_busmaster_dma.md R248 to R253): the set-up, a descriptor fetch, a chunk
in each direction with each answer of the device, and the two exits.
-/

namespace Sys2Proof.Machine

variable {s : State} {w : Walker}

/-! ## The set-up -/

theorem walkSetup_eq (s : State) : walkSetup s = { s with
    locks := s.locks.set s.selectedDrive true
    devices := s.devices.set s.selectedDrive { s.selDevice with position := (newWalker s).lba.toNat }
    events := .device s.selectedDrive (.seek (newWalker s).lba.toNat) :: .device s.selectedDrive .acquire :: s.events
    walk := .running (newWalker s) } := rfl

theorem walkSetup_selectedDrive (s : State) : (walkSetup s).selectedDrive = s.selectedDrive := by simp [walkSetup]

theorem walkSetup_cfg (s : State) : (walkSetup s).cfg = s.cfg := by simp [walkSetup]

theorem walkSetup_mem (s : State) : (walkSetup s).mem = s.mem := by simp [walkSetup]

/-! ## A descriptor -/

theorem awaitsDescriptor_iff :
    awaitsDescriptor w = true ↔ w.failed = false ∧ w.units ≠ 0 ∧ w.cnt = 0 ∧ w.last = false := by
  simp [awaitsDescriptor, and_assoc]

theorem walkStep_fetch (awaits : awaitsDescriptor w = true) (s : State) : walkStep w s = fetchDescriptor w s := by
  obtain ⟨sound, units, empty, more⟩ := awaitsDescriptor_iff.mp awaits
  simp [walkStep, sound, units, empty, more]

/-- The eight bytes of a descriptor are taken for its fields, the ignored bits among them for nothing
(30_encoding.md R113, R114). -/
theorem fetchDescriptor_eq {address : Word} {count : Half} {ignored : BitVec 15} {eot : Bool}
    (bytes : s.mem.readSpan s.freeCount w.p.toNat 8 = (encode .primary (.prdEntry address count ignored eot)).2) :
    fetchDescriptor w s = { s with
      walk := .running { w with addr := address, cnt := spanLength count, last := eot }
      events := .dmaRead w.p 8 :: s.events
      freeCount := s.freeCount + 1 } := by
  have fetched : (dmaRead w.p 8 s).2 = (encode .primary (.prdEntry address count ignored eot)).2 := bytes
  rw [fetchDescriptor, fetched]
  simp only [encode, List.getD_cons_zero, List.getD_cons_succ, le32_bytes, le16_bytes, prdFlag_field]
  rfl

theorem exec_prdEntry_running (live : s.fault = none) (running : s.walk = .running w) (address : Word) (count : Half)
    (ignored : BitVec 15) (eot : Bool) : exec (.prdEntry address count ignored eot) s =
      .next (if awaitsDescriptor w then takeDescriptor w address count eot s else s) := by
  refine (hostAccess_live _ live).trans ?_
  rw [running]

theorem exec_prdEntry_resting (live : s.fault = none) (resting : s.walk = .idle ∨ s.walk = .pending) (address : Word)
    (count : Half) (ignored : BitVec 15) (eot : Bool) : exec (.prdEntry address count ignored eot) s = .next s := by
  refine (hostAccess_live _ live).trans ?_
  obtain idle | pending := resting
  · rw [idle]
  · rw [pending]

/-- Settles O57: the fetch takes the fields of the bytes it reads, the row those of its operands. -/
theorem descriptorIsTaken : Obligations.DescriptorIsTaken := by
  intro s w address count ignored eot taken awaited
  have takes : awaitsDescriptor w = true ↔ awaited := awaitsDescriptor_iff
  refine ⟨fun awaits bytes => ?_, fun live running awaits => ?_, fun live running other => ?_, fun live resting => ?_⟩
  · exact (walkStep_fetch (takes.mpr awaits) s).trans (fetchDescriptor_eq bytes)
  · rw [exec_prdEntry_running live running, if_pos (takes.mpr awaits)]
    rfl
  · rw [exec_prdEntry_running live running, if_neg (mt takes.mp other)]
  · exact exec_prdEntry_resting live resting address count ignored eot

/-! ## The exits -/

theorem walkStep_done (sound : w.failed = false) (finished : w.units = 0) (s : State) :
    walkStep w s = dmaDone w s := by
  simp [walkStep, sound, finished]

theorem walkStep_error (fails : w.failed = true ∨ (w.units ≠ 0 ∧ w.cnt = 0 ∧ w.last = true)) (s : State) :
    walkStep w s = raiseError (.dma w) s := by
  obtain failed | ⟨units, empty, last⟩ := fails
  · simp [walkStep, failed]
  · simp [walkStep, units, empty, last]

theorem finishCursor_packet (packet : s.sel.command = 0xA0) (w : Walker) : finishCursor w s =
    (s.withCd { s.selCd with nextLba := w.lba, remainingSectors := 0, remainingBytes := 0 }).withDrive
      { s.sel with sectorCount := reasonComplete } := if_pos packet

theorem finishCursor_ata (ata : s.sel.command ≠ 0xA0) (w : Walker) :
    finishCursor w s = s.withDrive { s.sel with dmaLbaStart := w.lba, dmaLbaCount := 0 } := if_neg ata

theorem keepCursor_packet (packet : s.sel.command = 0xA0) (w : Walker) : keepCursor w s =
    s.withCd { s.selCd with nextLba := w.lba, remainingSectors := BitVec.ofNat 32 w.units } := if_pos packet

theorem keepCursor_ata (ata : s.sel.command ≠ 0xA0) (w : Walker) :
    keepCursor w s = s.withDrive { s.sel with dmaLbaStart := w.lba, dmaLbaCount := w.units } := if_neg ata

/-- The lock given back, with what an exit leaves in BM_STATUS. -/
def walkReleased (status : Byte) (s : State) : State := (deviceRelease s).withBm { s.bm with status := status }

/-- ACTIVE is cleared where the walk ended at the end of its last descriptor (43_busmaster_dma.md R251). -/
def doneStatus (w : Walker) (s : State) : Byte :=
  if w.last = true ∧ w.cnt = 0 then s.bm.status &&& 0xFE else s.bm.status

theorem dmaDone_eq (w : Walker) (s : State) : dmaDone w s =
    let u := finishCursor w (walkReleased (doneStatus w s) s)
    raiseInterrupt ((u.withDrive { u.sel with error := errorNone, status := statusReady, state := .idle }).withWalk
      .idle) := by
  have released : (if w.last = true ∧ w.cnt = 0 then
      (deviceRelease s).withBm { s.bm with status := withoutActive s.bm.status } else deviceRelease s) =
        walkReleased (doneStatus w s) s := by
    unfold walkReleased doneStatus
    split <;> rfl
  rw [← released]
  rfl

theorem dmaDone_packet (packet : s.sel.command = 0xA0) (w : Walker) : dmaDone w s =
    raiseInterrupt ((((walkReleased (doneStatus w s) s).withCd
      { s.selCd with nextLba := w.lba, remainingSectors := 0, remainingBytes := 0 }).withDrive
        { s.sel with sectorCount := 0x03, error := 0x00, status := 0x40, state := .idle }).withWalk .idle) := by
  rw [dmaDone_eq, finishCursor_packet (s := walkReleased _ s) packet]
  simp only [State.withDrive_withDrive, State.withDrive_sel]
  rfl

theorem dmaDone_ata (ata : s.sel.command ≠ 0xA0) (w : Walker) : dmaDone w s =
    raiseInterrupt (((walkReleased (doneStatus w s) s).withDrive { s.sel with
      dmaLbaStart := w.lba, dmaLbaCount := 0, error := 0x00, status := 0x40, state := .idle }).withWalk .idle) := by
  rw [dmaDone_eq, finishCursor_ata (s := walkReleased _ s) ata]
  simp only [State.withDrive_withDrive, State.withDrive_sel]
  rfl

theorem dmaError_eq (w : Walker) (s : State) : raiseError (.dma w) s =
    let u := keepCursor w (walkReleased (withDmaError s.bm.status) s)
    (u.withDrive { u.sel with status := statusReady, state := .idle }).withWalk .idle := rfl

theorem dmaError_packet (packet : s.sel.command = 0xA0) (w : Walker) : raiseError (.dma w) s =
    (((walkReleased (s.bm.status ||| 0x02) s).withCd
      { s.selCd with nextLba := w.lba, remainingSectors := BitVec.ofNat 32 w.units }).withDrive
        { s.sel with status := 0x40, state := .idle }).withWalk .idle := by
  rw [dmaError_eq, keepCursor_packet (s := walkReleased _ s) packet]
  rfl

theorem dmaError_ata (ata : s.sel.command ≠ 0xA0) (w : Walker) : raiseError (.dma w) s =
    ((walkReleased (s.bm.status ||| 0x02) s).withDrive { s.sel with
      dmaLbaStart := w.lba, dmaLbaCount := w.units, status := 0x40, state := .idle }).withWalk .idle := by
  rw [dmaError_eq, keepCursor_ata (s := walkReleased _ s) ata]
  simp only [State.withDrive_withDrive, State.withDrive_sel]
  rfl

/-- Settles O58: the exits by the cursor they write, that of the packet or that of the drive. -/
theorem walkExits : Obligations.WalkExits := by
  intro s w released isPacket
  refine ⟨fun sound finished => ?_, fun fails => ?_⟩
  · rw [walkStep_done sound finished]
    by_cases packet : isPacket
    · simp only [dmaDone_packet packet, if_pos packet]
      rfl
    · simp only [dmaDone_ata packet, if_neg packet]
      rfl
  · rw [walkStep_error fails]
    by_cases packet : isPacket
    · simp only [dmaError_packet packet, if_pos packet]
      rfl
    · simp only [dmaError_ata packet, if_neg packet]
      rfl

/-! ## The answers of the device (20_memory.md R65) -/

theorem deviceReadBlock_answered (answered : s.selDevice.shorts.headD false = false) (n : Nat) :
    deviceReadBlock n s =
      ({ s with
          devices := s.devices.set s.selectedDrive
            { s.selDevice with shorts := s.selDevice.shorts.tail, position := s.selDevice.position + 1 }
          events := .device s.selectedDrive (.readBlock n) :: s.events },
        some (blockContent s.selectedDrive s.selDevice s.selDevice.position n)) := by
  simp only [deviceReadBlock, nextIsShort, answered]
  rfl

theorem deviceReadBlock_short (short : s.selDevice.shorts.headD false = true) (n : Nat) :
    deviceReadBlock n s =
      ({ s with
          devices := s.devices.set s.selectedDrive { s.selDevice with shorts := s.selDevice.shorts.tail }
          events := .device s.selectedDrive (.readBlock n) :: s.events }, none) := by
  simp only [deviceReadBlock, nextIsShort, short]
  rfl

theorem deviceWriteBlock_answered (answered : s.selDevice.shorts.headD false = false) (bs : List Byte) :
    deviceWriteBlock bs s =
      ({ s with
          devices := s.devices.set s.selectedDrive { s.selDevice with
            shorts := s.selDevice.shorts.tail, position := s.selDevice.position + 1
            blocks := sparsePut s.selDevice.blocks s.selDevice.position bs }
          events := .device s.selectedDrive (.writeBlock bs.length) :: s.events }, true) := by
  simp only [deviceWriteBlock, nextIsShort, answered]
  rfl

theorem deviceWriteBlock_short (short : s.selDevice.shorts.headD false = true) (bs : List Byte) :
    deviceWriteBlock bs s =
      ({ s with
          devices := s.devices.set s.selectedDrive { s.selDevice with shorts := s.selDevice.shorts.tail }
          events := .device s.selectedDrive (.writeBlock bs.length) :: s.events }, false) := by
  simp only [deviceWriteBlock, nextIsShort, short]
  rfl

/-! ## A chunk to memory -/

theorem walkStep_chunk (sound : w.failed = false) (units : w.units ≠ 0) (bytes : w.cnt ≠ 0) (s : State) :
    walkStep w s = moveChunk w s := by
  simp [walkStep, sound, units, bytes]

/-- The buffer of the selected drive with a unit read into it. -/
def unitFilled (w : Walker) (s : State) : Drive :=
  { s.sel with
    buffer := bufferPut s.cfg.maxBlock s.sel.buffer 0
      (blockContent s.selectedDrive s.selDevice s.selDevice.position w.unit) }

/-- The buffer of the selected drive with `n` bytes of memory put at the walk's position. -/
def bytesArrived (w : Walker) (n : Nat) (s : State) : Drive :=
  { s.sel with buffer := bufferPut s.cfg.maxBlock s.sel.buffer w.pos (s.mem.readSpan s.freeCount w.addr.toNat n) }

theorem sendChunk_eq (w : Walker) (n : Nat) (s : State) : sendChunk w n s = { s with
    mem := s.mem.writeSpan w.addr.toNat (bufferSlice s.sel.buffer w.pos n)
    events := .dmaWrite w.addr n :: s.events
    walk := .running (advanceWalker w n) } := by
  rw [sendChunk, dmaWrite, bufferSlice_length]
  rfl

theorem chunkToMemory_inside (inside : w.pos ≠ 0) (n : Nat) (s : State) : chunkToMemory w n s = { s with
    mem := s.mem.writeSpan w.addr.toNat (bufferSlice s.sel.buffer w.pos n)
    events := .dmaWrite w.addr n :: s.events
    walk := .running (advanceWalker w n) } := by
  rw [chunkToMemory, if_neg inside, sendChunk_eq]

theorem chunkToMemory_fill (start : w.pos = 0) (answered : s.selDevice.shorts.headD false = false) (n : Nat) :
    chunkToMemory w n s = { s.withDrive (unitFilled w s) with
      devices := s.devices.set s.selectedDrive
        { s.selDevice with shorts := s.selDevice.shorts.tail, position := s.selDevice.position + 1 }
      mem := s.mem.writeSpan w.addr.toNat (bufferSlice (unitFilled w s).buffer 0 n)
      events := .dmaWrite w.addr n :: .device s.selectedDrive (.readBlock w.unit) :: s.events
      walk := .running (advanceWalker w n) } := by
  rw [chunkToMemory, if_pos start, deviceReadBlock_answered answered]
  simp only [sendChunk_eq, State.putBuffer, State.withDrive_sel, start]
  rfl

theorem chunkToMemory_short (start : w.pos = 0) (short : s.selDevice.shorts.headD false = true) (n : Nat) :
    chunkToMemory w n s = { s with
      devices := s.devices.set s.selectedDrive { s.selDevice with shorts := s.selDevice.shorts.tail }
      events := .device s.selectedDrive (.readBlock w.unit) :: s.events
      walk := .running { w with failed := true } } := by
  rw [chunkToMemory, if_pos start, deviceReadBlock_short short]
  rfl

/-! ## A chunk from memory -/

theorem chunkFromMemory_inside {n : Nat} (inside : w.pos + n ≠ w.unit) (s : State) :
    chunkFromMemory w n s = { s.withDrive (bytesArrived w n s) with
      events := .dmaRead w.addr n :: s.events
      freeCount := s.freeCount + 1
      walk := .running (advanceWalker w n) } := by
  rw [chunkFromMemory, if_neg inside]
  rfl

theorem chunkReceived_sel (w : Walker) (n : Nat) (s : State) :
    ((dmaRead w.addr n s).1.putBuffer w.pos (dmaRead w.addr n s).2).sel = bytesArrived w n s := State.withDrive_sel _ _

theorem chunkFromMemory_store {n : Nat} (ends : w.pos + n = w.unit)
    (answered : s.selDevice.shorts.headD false = false) :
    chunkFromMemory w n s = { s.withDrive (bytesArrived w n s) with
      devices := s.devices.set s.selectedDrive { s.selDevice with
        shorts := s.selDevice.shorts.tail, position := s.selDevice.position + 1
        blocks := sparsePut s.selDevice.blocks s.selDevice.position
          (bufferSlice (bytesArrived w n s).buffer 0 w.unit) }
      events := .device s.selectedDrive (.writeBlock w.unit) :: .dmaRead w.addr n :: s.events
      freeCount := s.freeCount + 1
      walk := .running (advanceWalker w n) } := by
  have written := deviceWriteBlock_answered (s := (dmaRead w.addr n s).1.putBuffer w.pos (dmaRead w.addr n s).2) answered
  rw [chunkFromMemory, if_pos ends, chunkReceived_sel, written, bufferSlice_length]
  rfl

theorem chunkFromMemory_short {n : Nat} (ends : w.pos + n = w.unit)
    (short : s.selDevice.shorts.headD false = true) :
    chunkFromMemory w n s = { s.withDrive (bytesArrived w n s) with
      devices := s.devices.set s.selectedDrive { s.selDevice with shorts := s.selDevice.shorts.tail }
      events := .device s.selectedDrive (.writeBlock w.unit) :: .dmaRead w.addr n :: s.events
      freeCount := s.freeCount + 1
      walk := .running { w with failed := true } } := by
  have written := deviceWriteBlock_short (s := (dmaRead w.addr n s).1.putBuffer w.pos (dmaRead w.addr n s).2) short
  rw [chunkFromMemory, if_pos ends, chunkReceived_sel, written, bufferSlice_length]
  rfl

/-! ## How a turn leaves the drive -/

/-- The drive is idle and ready, its lock given back and the walker's registers gone (43_busmaster_dma.md R251, R252). -/
structure WalkOver (s t : State) : Prop where
  walk : t.walk = .idle
  state : t.sel.state = .idle
  status : t.sel.status = 0x40
  lock : t.locks.get s.selectedDrive = false

theorem WalkOver.dmaDone (w : Walker) (s : State) : WalkOver s (dmaDone w s) := by
  have lock : (s.locks.set s.selectedDrive false).get s.selectedDrive = false := Pair.get_set_same _ _ _
  by_cases packet : s.sel.command = 0xA0
  · rw [dmaDone_packet packet]
    constructor <;> simp [lock, walkReleased, deviceRelease]
  · rw [dmaDone_ata packet]
    constructor <;> simp [lock, walkReleased, deviceRelease]

theorem WalkOver.dmaError (w : Walker) (s : State) : WalkOver s (raiseError (.dma w) s) := by
  have lock : (s.locks.set s.selectedDrive false).get s.selectedDrive = false := Pair.get_set_same _ _ _
  by_cases packet : s.sel.command = 0xA0
  · rw [dmaError_packet packet]
    constructor <;> simp [lock, walkReleased, deviceRelease]
  · rw [dmaError_ata packet]
    constructor <;> simp [lock, walkReleased, deviceRelease]

/-- The walk goes on, in a drive that shows what it did. -/
def WalkGoesOn (s t : State) : Prop := t.walk ≠ .idle ∧ t.sel.status = s.sel.status

theorem WalkGoesOn.moveChunk (w : Walker) (s : State) : WalkGoesOn s (moveChunk w s) := by
  have shows {x : Drive} (same : x.status = s.sel.status) : (s.withDrive x).sel.status = s.sel.status := by
    rw [State.withDrive_sel, same]
  unfold Machine.moveChunk
  dsimp only
  split
  · by_cases start : w.pos = 0
    · cases answer : s.selDevice.shorts.headD false with
      | false =>
        rw [chunkToMemory_fill start answer]
        exact ⟨Walk.noConfusion, shows rfl⟩
      | true =>
        rw [chunkToMemory_short start answer]
        exact ⟨Walk.noConfusion, rfl⟩
    · rw [chunkToMemory_inside start]
      exact ⟨Walk.noConfusion, rfl⟩
  · by_cases ends : w.pos + min w.cnt (w.unit - w.pos) = w.unit
    · cases answer : s.selDevice.shorts.headD false with
      | false =>
        rw [chunkFromMemory_store ends answer]
        exact ⟨Walk.noConfusion, shows rfl⟩
      | true =>
        rw [chunkFromMemory_short ends answer]
        exact ⟨Walk.noConfusion, shows rfl⟩
    · rw [chunkFromMemory_inside ends]
      exact ⟨Walk.noConfusion, shows rfl⟩

/-- A turn is the last one of the walk or leaves it going on. -/
theorem walkStep_over_or_goesOn (w : Walker) (s : State) :
    WalkOver s (walkStep w s) ∨ WalkGoesOn s (walkStep w s) := by
  obtain ⟨-, e⟩ | ⟨-, -, e⟩ | ⟨-, e⟩ | ⟨-, -, -, e⟩ := walkStep_cases w s
  all_goals rw [e]
  · exact .inl (.dmaError w s)
  · exact .inl (.dmaDone w s)
  · exact .inr ⟨Walk.noConfusion, rfl⟩
  · exact .inr (.moveChunk w s)

/-! ## The turns of the worker (60_exceptions.md R295) -/

/-- The counters after a chunk, in the words of the rule: `w.p` moves on at a descriptor's end while units are left
(43_busmaster_dma.md R250). -/
theorem advanceWalker_eq (units : w.units ≠ 0) {n : Nat} (within : n ≤ w.cnt) : advanceWalker w n = { w with
    addr := w.addr + BitVec.ofNat 32 n
    cnt := w.cnt - n
    pos := if w.pos + n = w.unit then 0 else w.pos + n
    units := if w.pos + n = w.unit then w.units - 1 else w.units
    lba := if w.pos + n = w.unit then w.lba + 1 else w.lba
    p := if w.cnt = n ∧ ¬(w.pos + n = w.unit ∧ w.units = 1) then w.p + 8 else w.p } := by
  have fetches : (w.cnt - n = 0 ∧ (if w.pos + n = w.unit then w.units - 1 else w.units) ≠ 0) ↔
      (w.cnt = n ∧ ¬(w.pos + n = w.unit ∧ w.units = 1)) := by
    split <;> omega
  simp only [advanceWalker, fetches]

/-- The worker's turn on a running walk is one step of it; the last one frees the mailbox. -/
theorem workerStep_walks (live : s.fault = none) (running : s.walk = .running w) :
    ((walkStep w s).walk = .idle →
      workerStep s = .next { walkStep w s with slot := { s.slot with op := .idle } } ∧
        (walkStep w s).sel.status = 0x40) ∧
      ((walkStep w s).walk ≠ .idle →
        workerStep s = .next (walkStep w s) ∧ (walkStep w s).slot = s.slot ∧
          (walkStep w s).sel.status = s.sel.status) := by
  have slot := (WalkTurn.walkStep w s).slot
  obtain ended | ⟨goesOn, status⟩ := walkStep_over_or_goesOn w s
  · refine ⟨fun _ => ⟨?_, ended.status⟩, fun goesOn => absurd ended.walk goesOn⟩
    rw [workerStep_running live running, finishOperation_idle ended.walk, freeSlot, slot]
    rfl
  · refine ⟨fun ended => absurd ended goesOn, fun _ => ⟨?_, slot, status⟩⟩
    rw [workerStep_running live running, finishOperation_of_walk goesOn]

/-- The worker's first turn on a walk that was left to it is the set-up, or its refusal. -/
theorem workerStep_startsWalk (live : s.fault = none) (handed : WalkHandedOver s) :
    workerStep s = ifDirectionAgrees s (walkSetup s) := by
  obtain pending | ⟨idle, op, reg | ⟨reg, port⟩⟩ := handed
  · rw [workerStep, hostAccess_live _ live, pending]
    rfl
  · rw [workerStep_idle live idle, beginOperation, op, reg]
    rfl
  · rw [workerStep_idle live idle, beginOperation, op, reg, port]
    rfl

/-- Settles O27: the set-up, a chunk by its direction, its place in the unit and the device's answer, and the worker's
turns. -/
theorem walkTurnByTurn : Obligations.WalkTurnByTurn := by
  intro s w calls isPacket first chunk n ends moved failing short answered content filled arrived
  have moves (c : chunk) : advanceWalker w n = moved := by
    obtain ⟨-, units, -⟩ := c
    exact advanceWalker_eq units (Nat.min_le_left _ _)
  have sends (c : chunk) (toMem : w.toMem = true) : walkStep w s = chunkToMemory w n s := by
    obtain ⟨sound, units, bytes⟩ := c
    exact (walkStep_chunk sound units bytes s).trans (if_pos toMem)
  have receives (c : chunk) (fromMem : w.toMem = false) : walkStep w s = chunkFromMemory w n s := by
    obtain ⟨sound, units, bytes⟩ := c
    exact (walkStep_chunk sound units bytes s).trans (if_neg (by rw [fromMem]; exact Bool.noConfusion))
  refine ⟨⟨newWalker s, walkSetup_eq s, rfl⟩, fun c toMem inside => ?_, fun c toMem start answer => ?_,
    fun c toMem start answer => ?_, fun c fromMem inside => ?_, fun c fromMem unitEnds answer => ?_,
    fun c fromMem unitEnds answer => ?_, fun live running => workerStep_walks live running,
    fun live handed => ⟨fun agrees => ?_, fun mismatch => ?_⟩⟩
  · rw [sends c toMem, chunkToMemory_inside inside, moves c]
  · rw [sends c toMem, chunkToMemory_fill start answer, moves c]
    rfl
  · rw [sends c toMem, chunkToMemory_short start answer]
  · rw [receives c fromMem, chunkFromMemory_inside inside, moves c]
    rfl
  · rw [receives c fromMem, chunkFromMemory_store unitEnds answer, moves c]
    rfl
  · rw [receives c fromMem, chunkFromMemory_short unitEnds answer]
    rfl
  · rw [workerStep_startsWalk live handed, ifDirectionAgrees_next (directionAgrees_iff.mpr agrees)]
  · rw [workerStep_startsWalk live handed, ifDirectionAgrees_refused (mt directionAgrees_iff.mp mismatch)]

end Sys2Proof.Machine
end

section
/-!
Whole walks (43_busmaster_dma.md R247, R249, R254, R255): every walk ends within its bound, which events start one, and
the walk of one sector over two descriptors.
-/

namespace Sys2Proof.Machine

variable {s : State} {w : Walker}

/-! ## Every walk ends -/

/-- A walk inside its unit ends within the turns it has left. -/
theorem runWalk_ends (n : Nat) (running : s.walk = .running w) (inside : w.pos < w.unit) (enough : w.turnsLeft ≤ n) :
    WalkOver s (runWalk n s) := by
  induction n generalizing s w with
  | zero => exact absurd enough (Nat.not_le_of_lt w.turnsLeft_pos)
  | succ n ih =>
    rw [runWalk_of_running n running]
    obtain idle | ⟨w', goesOn, less⟩ := (WalkTurn.walkStep w s).walk
    · rw [runWalk_of_idle n idle]
      exact (walkStep_over_or_goesOn w s).resolve_right fun ⟨goesOn, _⟩ => goesOn idle
    · obtain ⟨inside', fewer⟩ := less inside
      obtain ⟨walk, state, status, lock⟩ := ih goesOn inside' (by omega)
      exact ⟨walk, state, status, by rwa [(OwnWork.walkStep s w).selected] at lock⟩

/-- The bound of 43_busmaster_dma.md R255 (e): twice the bytes left and three steps. -/
theorem turnsLeft_le (w : Walker) : w.turnsLeft ≤ 2 * (w.units * w.unit) + 3 := by
  unfold Walker.turnsLeft
  split_ifs <;> omega

/-- Settles O56: a walk from any point of it, and one from its set-up. -/
theorem everyWalkEnds : Obligations.EveryWalkEnds := by
  refine ⟨fun s w running inside => ?_, fun s unit => ?_⟩
  · obtain ⟨walk, state, -, lock⟩ := runWalk_ends _ running inside (turnsLeft_le w)
    exact ⟨walk, state, lock⟩
  · obtain ⟨inside, enough⟩ := newWalker_ready unit
    obtain ⟨walk, state, status, lock⟩ := runWalk_ends (s := walkSetup s) _ rfl inside enough
    rw [walkSetup_selectedDrive] at lock
    exact ⟨walk, state, status, lock⟩

/-! ## What starts a walk -/

/-- The descriptor of a START write (43_busmaster_dma.md R247). -/
def startDescriptor (v : Byte) (s : State) : Mailbox where
  op := .write
  reg := .bm
  port := s.cfg.channel.base
  data := v.setWidth 32
  size := 1

theorem kick_startWrite_deferred (v : Byte) (condition : kickCondition s = true) (deferring : s.cfg.defer = true) :
    kick (.startWrite v) s =
      if s.slot.op = .idle then ifDirectionAgrees s (pushSlot (startDescriptor v s) s) else .next s := by
  by_cases idle : s.slot.op = .idle
  · have free : slotBusy s = false := by rw [slotBusy, idle]; rfl
    simp only [kick, condition, deferring, free, idle, Bool.not_true, Bool.false_eq_true, if_false, if_true]
    rfl
  · have busy : slotBusy s = true := by simpa [slotBusy] using idle
    simp only [kick, condition, deferring, busy, idle, Bool.not_true, Bool.false_eq_true, if_false, if_true]

theorem storedCommand_bits (v : Byte) :
    (storedCommand v).getLsbD 0 = v.getLsbD 0 ∧ (storedCommand v).getLsbD 3 = v.getLsbD 3 := by
  simp [storedCommand]

/-- The kick of a rising START on a drive in DMA_ACTIVE, by who would walk. -/
theorem exec_startWrite {v : Byte} (live : s.fault = none) (waiting : s.sel.state = .dmaActive)
    (stopped : s.bm.command.getLsbD 0 = false) (start : v.getLsbD 0 = true) :
    let m := commandStored v (s.bm.status ||| 0x01) s
    exec (.iow8BmCommand v) s = kick (.startWrite v) m ∧ kickCondition m = true ∧
      (directionAgrees m = true ↔ (v.getLsbD 3 = true ↔ s.sel.command ≠ 0xCA)) := by
  obtain ⟨startBit, rwBit⟩ := storedCommand_bits v
  refine ⟨(exec_iow8BmCommand live v).trans (writeBmCommand_rises stopped start), ?_, ?_⟩
  · have stored : isStart (storedCommand v) = true := startBit.trans start
    show ((s.sel.state == .dmaActive) && isStart (storedCommand v)) = true
    rw [waiting, stored]
    rfl
  · rw [directionAgrees_iff]
    show ((storedCommand v).getLsbD 3 = true ↔ s.sel.command ≠ 0xCA) ↔ _
    rw [rwBit]

/-- The kick of a DMA command with START set, on the drive it has armed (41_ata_commands.md R181, R182). -/
theorem exec_dmaStarted {v : Byte} {i : Instr} (named : (v = 0xC8 ∧ i = .readDma) ∨ (v = 0xCA ∧ i = .writeDma))
    (accepting : AcceptingCommand s .ata) (immediate : s.cfg.defer = false) (start : isStart s.bm.command = true)
    (inside : rangeAddressable s = true) :
    let m := armDma (acceptCommand v s)
    exec i s = kick .command m ∧ kickCondition m = true ∧
      (directionAgrees m = true ↔ (s.bm.command.getLsbD 3 = true ↔ v = 0xC8)) := by
  have range : rangeAddressable (acceptCommand v s) = true := (rangeAddressable_accepted v).mpr
    (by simpa [rangeAddressable] using inside)
  have answer : exec i s = dmaBody (acceptCommand v s) := by
    rw [exec_dmaCommand named]
    exact dispatchCommand_ownProtocol accepting (by rw [immediate]; rfl)
  have state : (armDma (acceptCommand v s)).sel.state = .dmaActive := by simp [armDma]
  have command : (armDma (acceptCommand v s)).sel.command = v := by simp [armDma, acceptCommand]
  have bm : (armDma (acceptCommand v s)).bm = s.bm := by simp [armDma, acceptCommand]
  have other : v ≠ 0xCA ↔ v = 0xC8 := by
    obtain ⟨rfl, -⟩ | ⟨rfl, -⟩ := named <;> decide
  refine ⟨by rw [answer, dmaBody, if_pos range], ?_, ?_⟩
  · rw [kickCondition, state, bm, start]
    rfl
  · rw [directionAgrees_iff, command, bm, other]

/-- Settles O55: the direction decides at each event, `P_DEFER` and the mailbox who walks. -/
theorem kickRunsTheWalk : Obligations.KickRunsTheWalk := by
  refine ⟨fun s v live waiting stopped start => ?_, fun s v i named accepting immediate start inside => ?_⟩
  · intro m agrees
    obtain ⟨answer, condition, direction⟩ := exec_startWrite live waiting stopped start
    refine ⟨fun immediate agree => ?_, fun deferring idle agree => ?_, fun deferring busy => ?_,
      fun mismatch free => ?_⟩
    · rw [answer, kick_immediate _ condition immediate, ifDirectionAgrees_next (direction.mpr agree)]
      rfl
    · rw [answer, kick_startWrite_deferred v condition deferring, if_pos (by exact idle),
        ifDirectionAgrees_next (direction.mpr agree)]
      rfl
    · rw [answer, kick_startWrite_deferred v condition deferring, if_neg (by exact busy)]
      rfl
    · cases defer : s.cfg.defer with
      | false =>
        rw [answer, kick_immediate _ condition defer, ifDirectionAgrees_refused (mt direction.mp mismatch)]
      | true =>
        have idle : s.slot.op = .idle := free.resolve_left (by rw [defer]; exact Bool.noConfusion)
        rw [answer, kick_startWrite_deferred v condition defer, if_pos (by exact idle),
          ifDirectionAgrees_refused (mt direction.mp mismatch)]
  · obtain ⟨answer, condition, direction⟩ := exec_dmaStarted named accepting immediate start inside
    refine ⟨fun agree => ?_, fun mismatch => ?_⟩
    · rw [answer, kick_immediate _ condition immediate, ifDirectionAgrees_next (direction.mpr agree)]
    · rw [answer, kick_immediate _ condition immediate, ifDirectionAgrees_refused (mt direction.mp mismatch)]

end Sys2Proof.Machine
end

section
/-!
The walk of one sector over two descriptors (43_busmaster_dma.md R254): two turns for each descriptor, then the
successful exit.
-/

namespace Sys2Proof.Machine

variable {s : State} {w : Walker} {address : Word} {count : Half} {ignored : BitVec 15} {eot : Bool}

/-! ## Turns with their descriptors -/

/-- The walker with a span of `n` bytes open. -/
def spanOpened (w : Walker) (address : Word) (n : Nat) (eot : Bool) : Walker :=
  { w with addr := address, cnt := n, last := eot }

/-- The state after the fetch at `w.p` that opened a span as `x`. -/
def spanFetched (w x : Walker) (s : State) : State :=
  { s with walk := .running x, events := .dmaRead w.p 8 :: s.events, freeCount := s.freeCount + 1 }

theorem runWalk_fetch (k : Nat) (running : s.walk = .running w) (awaits : awaitsDescriptor w = true)
    (bytes : s.mem.readSpan s.freeCount w.p.toNat 8 = (encode .primary (.prdEntry address count ignored eot)).2)
    (positive : count ≠ 0) :
    runWalk (k + 1) s = runWalk k (spanFetched w (spanOpened w address count.toNat eot) s) := by
  have length : spanLength count = count.toNat := if_neg positive
  rw [runWalk_of_running k running, walkStep_fetch awaits, fetchDescriptor_eq bytes, length]
  rfl

theorem runWalk_sends (k : Nat) (running : s.walk = .running w) (sound : w.failed = false) (units : w.units ≠ 0)
    (bytes : w.cnt ≠ 0) (toMem : w.toMem = true) {n : Nat} (chunk : min w.cnt (w.unit - w.pos) = n) :
    runWalk (k + 1) s = runWalk k (chunkToMemory w n s) := by
  rw [runWalk_of_running k running, walkStep_chunk sound units bytes, moveChunk, if_pos toMem, chunk]

/-- The walker after a first part of `n` bytes of a unit, at its descriptor's end. -/
def firstPartWalker (w : Walker) (address : Word) (n : Nat) (eot : Bool) : Walker :=
  { w with addr := address + BitVec.ofNat 32 n, cnt := 0, last := eot, pos := n, p := w.p + 8 }

/-- The state after the fetch of a descriptor of `n` bytes and the first part of a unit, read from the device. -/
def firstPartSent (w : Walker) (address : Word) (n : Nat) (eot : Bool) (s : State) : State :=
  { s.withDrive (unitFilled w s) with
    devices := s.devices.set s.selectedDrive
      { s.selDevice with shorts := s.selDevice.shorts.tail, position := s.selDevice.position + 1 }
    mem := s.mem.writeSpan address.toNat (bufferSlice (unitFilled w s).buffer 0 n)
    events := .dmaWrite address n :: .device s.selectedDrive (.readBlock w.unit) :: .dmaRead w.p 8 :: s.events
    freeCount := s.freeCount + 1
    walk := .running (firstPartWalker w address n eot) }

theorem firstPartSent_sel (w : Walker) (address : Word) (n : Nat) (eot : Bool) (s : State) :
    (firstPartSent w address n eot s).sel = unitFilled w s := State.withDrive_sel s _

theorem firstPartSent_mem (w : Walker) (address : Word) (n : Nat) (eot : Bool) (s : State) :
    (firstPartSent w address n eot s).mem =
      s.mem.writeSpan address.toNat (bufferSlice (unitFilled w s).buffer 0 n) := rfl

theorem runWalk_firstPart (k : Nat) (running : s.walk = .running w) (awaits : awaitsDescriptor w = true)
    (toMem : w.toMem = true) (start : w.pos = 0) (answered : s.selDevice.shorts.headD false = false)
    (bytes : s.mem.readSpan s.freeCount w.p.toNat 8 = (encode .primary (.prdEntry address count ignored eot)).2)
    (positive : count ≠ 0) (part : count.toNat < w.unit) :
    runWalk (k + 2) s = runWalk k (firstPartSent w address count.toNat eot s) := by
  obtain ⟨sound, units, -, -⟩ := awaitsDescriptor_iff.mp awaits
  have bytesLeft : count.toNat ≠ 0 := fun h => positive (BitVec.eq_of_toNat_eq h)
  have chunk : min count.toNat (w.unit - w.pos) = count.toNat := by omega
  have short : count.toNat ≠ w.unit := by omega
  have moved : advanceWalker (spanOpened w address count.toNat eot) count.toNat =
      firstPartWalker w address count.toNat eot := by
    rw [advanceWalker_eq (w := spanOpened w address count.toNat eot) (n := count.toNat) units (Nat.le_refl _)]
    simp [spanOpened, firstPartWalker, start, short]
  rw [runWalk_fetch (k + 1) running awaits bytes positive,
    runWalk_sends (w := spanOpened w address count.toNat eot) k rfl sound units bytesLeft toMem chunk,
    chunkToMemory_fill (s := spanFetched w _ s) (w := spanOpened w address count.toNat eot) start answered, moved]
  rfl

/-- The walker after the last part of the last unit, at its descriptor's end. -/
def lastPartWalker (w : Walker) (address : Word) (n : Nat) (eot : Bool) : Walker :=
  { w with addr := address + BitVec.ofNat 32 n, cnt := 0, last := eot, pos := 0, units := 0, lba := w.lba + 1 }

/-- The state after the fetch of a descriptor of `n` bytes and the last part of the last unit. -/
def lastPartSent (w : Walker) (address : Word) (n : Nat) (eot : Bool) (s : State) : State :=
  { s with
    mem := s.mem.writeSpan address.toNat (bufferSlice s.sel.buffer w.pos n)
    events := .dmaWrite address n :: .dmaRead w.p 8 :: s.events
    freeCount := s.freeCount + 1
    walk := .running (lastPartWalker w address n eot) }

theorem lastPartSent_sel (w : Walker) (address : Word) (n : Nat) (eot : Bool) (s : State) :
    (lastPartSent w address n eot s).sel = s.sel := rfl

theorem lastPartSent_mem (w : Walker) (address : Word) (n : Nat) (eot : Bool) (s : State) :
    (lastPartSent w address n eot s).mem = s.mem.writeSpan address.toNat (bufferSlice s.sel.buffer w.pos n) := rfl

theorem runWalk_lastPart (k : Nat) (running : s.walk = .running w) (awaits : awaitsDescriptor w = true)
    (toMem : w.toMem = true) (inside : w.pos ≠ 0) (single : w.units = 1)
    (bytes : s.mem.readSpan s.freeCount w.p.toNat 8 = (encode .primary (.prdEntry address count ignored eot)).2)
    (positive : count ≠ 0) (rest : w.pos + count.toNat = w.unit) :
    runWalk (k + 2) s = runWalk k (lastPartSent w address count.toNat eot s) := by
  obtain ⟨sound, units, -, -⟩ := awaitsDescriptor_iff.mp awaits
  have bytesLeft : count.toNat ≠ 0 := fun h => positive (BitVec.eq_of_toNat_eq h)
  have chunk : min count.toNat (w.unit - w.pos) = count.toNat := by omega
  have moved : advanceWalker (spanOpened w address count.toNat eot) count.toNat =
      lastPartWalker w address count.toNat eot := by
    rw [advanceWalker_eq (w := spanOpened w address count.toNat eot) (n := count.toNat) units (Nat.le_refl _)]
    simp [spanOpened, lastPartWalker, rest, single]
  rw [runWalk_fetch (k + 1) running awaits bytes positive,
    runWalk_sends (w := spanOpened w address count.toNat eot) k rfl sound units bytesLeft toMem chunk,
    chunkToMemory_inside (w := spanOpened w address count.toNat eot) inside, moved]
  rfl

theorem runWalk_done (k : Nat) (running : s.walk = .running w) (sound : w.failed = false) (finished : w.units = 0) :
    runWalk (k + 1) s = dmaDone w s := by
  rw [runWalk_of_running k running, walkStep_done sound finished, runWalk_of_idle k (WalkOver.dmaDone w s).walk]

/-! ## A unit in the buffer -/

theorem bufferSlice_put {cap : Nat} (buf : List Byte) {bs : List Byte} (room : bs.length ≤ cap) {p n : Nat}
    (inside : p + n ≤ bs.length) : bufferSlice (bufferPut cap buf 0 bs) p n = (bs.drop p).take n := by
  refine List.ext_getElem (by simp [bufferSlice_length]; omega) fun i hi _ => ?_
  have place : p + i < bs.length := by
    rw [bufferSlice_length] at hi
    omega
  have byte := bufferByte_put_inside cap buf 0 bs (p + i) place (by omega)
  rw [Nat.zero_add, List.getD_eq_getElem _ _ place] at byte
  simp [bufferSlice, byte]

theorem blockContent_length (d : DriveId) (x : Device) (lba n : Nat) : (blockContent d x lba n).length = n := by
  unfold blockContent
  split
  · split
    · assumption
    · simp
  · simp

/-! ## A unit over two descriptors -/

/-- The unit at the DMA cursor, as the device would answer it. -/
def unitAhead (s : State) : List Byte :=
  blockContent s.selectedDrive s.selDevice s.sel.dmaLbaStart.toNat s.sel.unitSize

/-- The memory after `n` bytes of that unit at `address`. -/
def firstPartMemory (address : Word) (n : Nat) (s : State) : Memory :=
  s.mem.writeSpan address.toNat ((unitAhead s).take n)

/-- The address of the first descriptor (43_busmaster_dma.md R248). -/
def firstDescriptor (s : State) : Word := s.bm.prdPtr &&& 0xFFFFFFFC

/-- An ATA drive with one unit to send to memory, which the two descriptors of the table hold together. -/
structure SplitUnit (s : State) (a1 a2 : Word) (c1 c2 : Half) : Prop where
  ata : s.sel.command ≠ 0xA0
  toMem : s.bm.command.getLsbD 3 = true
  single : s.sel.dmaLbaCount = 1
  room : s.sel.unitSize ≤ s.cfg.maxBlock
  answered : s.selDevice.shorts.headD false = false
  positive1 : c1 ≠ 0
  positive2 : c2 ≠ 0
  total : c1.toNat + c2.toNat = s.sel.unitSize
  table1 : ∃ i, ∀ n, s.mem.readSpan n (firstDescriptor s).toNat 8 = (encode .primary (.prdEntry a1 c1 i false)).2
  table2 : ∃ i, ∀ n, (firstPartMemory a1 c1.toNat s).readSpan n (firstDescriptor s + 8).toNat 8 =
    (encode .primary (.prdEntry a2 c2 i true)).2

/-- The state at the successful exit of the walk over the two descriptors. -/
def bothPartsSent (a1 a2 : Word) (n1 n2 : Nat) (s : State) : State :=
  lastPartSent (firstPartWalker (newWalker s) a1 n1 false) a2 n2 true
    (firstPartSent (newWalker s) a1 n1 false (walkSetup s))

theorem bothPartsSent_sel (a1 a2 : Word) (n1 n2 : Nat) (s : State) :
    (bothPartsSent a1 a2 n1 n2 s).sel = unitFilled (newWalker s) (walkSetup s) := by
  rw [bothPartsSent, lastPartSent_sel, firstPartSent_sel]

theorem newWalker_p (s : State) : (newWalker s).p = firstDescriptor s := rfl

theorem newWalker_unit (s : State) : (newWalker s).unit = s.sel.unitSize := rfl

theorem newWalker_lba (ata : s.sel.command ≠ 0xA0) : (newWalker s).lba = s.sel.dmaLbaStart := if_neg ata

theorem newWalker_units (ata : s.sel.command ≠ 0xA0) : (newWalker s).units = s.sel.dmaLbaCount := if_neg ata

variable {a1 a2 : Word} {c1 c2 : Half}

/-- The set-up puts the device at the cursor, so that the unit read is the one ahead. -/
theorem unitFilled_walkSetup (ata : s.sel.command ≠ 0xA0) : unitFilled (newWalker s) (walkSetup s) =
    { s.sel with buffer := bufferPut s.cfg.maxBlock s.sel.buffer 0 (unitAhead s) } := by
  have device : (walkSetup s).selDevice = { s.selDevice with position := s.sel.dmaLbaStart.toNat } := by
    simp [walkSetup, deviceSeek, newWalker_lba ata]
  have content : blockContent s.selectedDrive (walkSetup s).selDevice = blockContent s.selectedDrive s.selDevice := by
    rw [device]
    rfl
  rw [unitFilled, unitAhead, walkSetup_selectedDrive, content, walkSetup_cfg, walkSetup_sel, device, newWalker_unit]

/-- Each part stored is its part of the unit. -/
theorem SplitUnit.memory (h : SplitUnit s a1 a2 c1 c2) :
    (firstPartSent (newWalker s) a1 c1.toNat false (walkSetup s)).mem = firstPartMemory a1 c1.toNat s ∧
      (bothPartsSent a1 a2 c1.toNat c2.toNat s).mem =
        (firstPartMemory a1 c1.toNat s).writeSpan a2.toNat ((unitAhead s).drop c1.toNat) := by
  have size : (unitAhead s).length = s.sel.unitSize := blockContent_length _ _ _ _
  have total := h.total
  have slice {p n : Nat} (inside : p + n ≤ s.sel.unitSize) :
      bufferSlice (unitFilled (newWalker s) (walkSetup s)).buffer p n = ((unitAhead s).drop p).take n := by
    rw [unitFilled_walkSetup h.ata]
    exact bufferSlice_put _ (by rw [size]; exact h.room) (by rw [size]; exact inside)
  have first : (firstPartSent (newWalker s) a1 c1.toNat false (walkSetup s)).mem = firstPartMemory a1 c1.toNat s := by
    rw [firstPartSent_mem, slice (by omega), walkSetup_mem, List.drop_zero, firstPartMemory]
  have rest : ((unitAhead s).drop c1.toNat).take c2.toNat = (unitAhead s).drop c1.toNat :=
    List.take_of_length_le (by rw [List.length_drop]; omega)
  refine ⟨first, ?_⟩
  rw [bothPartsSent, lastPartSent_mem, first, firstPartSent_sel]
  exact congrArg _ ((slice (p := c1.toNat) (by omega)).trans rest)

/-- Five turns bring the walk to its exit. -/
theorem SplitUnit.wholeWalk (h : SplitUnit s a1 a2 c1 c2) : wholeWalk s =
    dmaDone (lastPartWalker (firstPartWalker (newWalker s) a1 c1.toNat false) a2 c2.toNat true)
      (bothPartsSent a1 a2 c1.toNat c2.toNat s) := by
  have total := h.total
  have bytes1Left : c1.toNat ≠ 0 := fun e => h.positive1 (BitVec.eq_of_toNat_eq e)
  have bytes2Left : c2.toNat ≠ 0 := fun e => h.positive2 (BitVec.eq_of_toNat_eq e)
  have units : (newWalker s).units = 1 := (newWalker_units h.ata).trans h.single
  have fuel : walkFuel (newWalker s) = 2 * s.sel.unitSize - 2 + 1 + 2 + 2 := by
    rw [walkFuel, units, show (newWalker s).unit = s.sel.unitSize from rfl]
    omega
  have unitsLeft : (newWalker s).units ≠ 0 := by rw [units]; decide
  have awaits1 : awaitsDescriptor (newWalker s) = true := awaitsDescriptor_iff.mpr ⟨rfl, unitsLeft, rfl, rfl⟩
  have awaits2 : awaitsDescriptor (firstPartWalker (newWalker s) a1 c1.toNat false) = true :=
    awaitsDescriptor_iff.mpr ⟨rfl, unitsLeft, rfl, rfl⟩
  obtain ⟨_, bytes1⟩ := h.table1
  obtain ⟨_, bytes2⟩ := h.table2
  have answered : (walkSetup s).selDevice.shorts.headD false = false := by
    simpa [walkSetup, deviceSeek] using h.answered
  rw [Machine.wholeWalk, fuel,
    runWalk_firstPart (s := walkSetup s) (w := newWalker s) _ rfl awaits1 h.toMem rfl answered
      (by rw [walkSetup_mem]; exact bytes1 _) h.positive1 (show c1.toNat < s.sel.unitSize by omega),
    runWalk_lastPart (w := firstPartWalker (newWalker s) a1 c1.toNat false) _ rfl awaits2 h.toMem bytes1Left units
      (by rw [h.memory.1]; exact bytes2 _) h.positive2 total]
  exact runWalk_done _ rfl rfl rfl

/-! ## The statement -/

/-- The drive after the walk, ready and idle. -/
def sectorDrive (a1 a2 : Word) (n1 n2 : Nat) (s : State) : Drive :=
  { (bothPartsSent a1 a2 n1 n2 s).sel with
    dmaLbaStart := (lastPartWalker (firstPartWalker (newWalker s) a1 n1 false) a2 n2 true).lba
    dmaLbaCount := 0, error := 0x00, status := 0x40, state := .idle }

/-- The state after the walk, but for its interrupt. -/
def sectorSent (a1 a2 : Word) (n1 n2 : Nat) (s : State) : State :=
  ((walkReleased (s.bm.status &&& 0xFE) (bothPartsSent a1 a2 n1 n2 s)).withDrive
    (sectorDrive a1 a2 n1 n2 s)).withWalk .idle

theorem sectorSent_sel (a1 a2 : Word) (n1 n2 : Nat) (s : State) :
    (sectorSent a1 a2 n1 n2 s).sel = sectorDrive a1 a2 n1 n2 s := by
  rw [sectorSent, State.withWalk_sel, State.withDrive_sel]

theorem sectorSent_frame (a1 a2 : Word) (n1 n2 : Nat) (s : State) :
    (sectorSent a1 a2 n1 n2 s).cfg = s.cfg ∧ (sectorSent a1 a2 n1 n2 s).bm.status = s.bm.status &&& 0xFE ∧
      (sectorSent a1 a2 n1 n2 s).irqPending = s.irqPending ∧ (sectorSent a1 a2 n1 n2 s).walk = .idle ∧
      (sectorSent a1 a2 n1 n2 s).mem = (bothPartsSent a1 a2 n1 n2 s).mem := by
  simp [sectorSent, walkReleased, bothPartsSent, lastPartSent, firstPartSent, walkSetup]

theorem sectorSent_drive (a1 a2 : Word) (n1 n2 : Nat) (s : State) :
    (sectorSent a1 a2 n1 n2 s).sel.status = 0x40 ∧ (sectorSent a1 a2 n1 n2 s).sel.error = 0x00 ∧
      (sectorSent a1 a2 n1 n2 s).sel.state = .idle ∧ (sectorSent a1 a2 n1 n2 s).sel.dmaLbaCount = 0 := by
  rw [sectorSent_sel, sectorDrive]
  exact ⟨rfl, rfl, rfl, rfl⟩

theorem SplitUnit.sectorSent (h : SplitUnit s a1 a2 c1 c2) :
    Machine.wholeWalk s = raiseInterrupt (sectorSent a1 a2 c1.toNat c2.toNat s) := by
  have ata : (bothPartsSent a1 a2 c1.toNat c2.toNat s).sel.command ≠ 0xA0 := by
    rw [bothPartsSent_sel, unitFilled_walkSetup h.ata]
    exact h.ata
  have cleared : doneStatus (lastPartWalker (firstPartWalker (newWalker s) a1 c1.toNat false) a2 c2.toNat true)
      (bothPartsSent a1 a2 c1.toNat c2.toNat s) = s.bm.status &&& 0xFE := if_pos ⟨rfl, rfl⟩
  rw [h.wholeWalk, dmaDone_ata ata, cleared, Machine.sectorSent, sectorDrive]

theorem sectorSent_events (ata : s.sel.command ≠ 0xA0) (a1 a2 : Word) (n1 n2 : Nat) :
    (sectorSent a1 a2 n1 n2 s).events =
      .device s.selectedDrive .release :: .dmaWrite a2 n2 :: .dmaRead (firstDescriptor s + 8) 8 :: .dmaWrite a1 n1 ::
        .device s.selectedDrive (.readBlock s.sel.unitSize) :: .dmaRead (firstDescriptor s) 8 ::
        .device s.selectedDrive (.seek s.sel.dmaLbaStart.toNat) :: .device s.selectedDrive .acquire :: s.events := by
  simp only [sectorSent, walkReleased, deviceRelease, deviceCall, bothPartsSent, lastPartSent, firstPartSent,
    firstPartWalker, newWalker_p, newWalker_unit, walkSetup_eq, newWalker_lba ata, State.withWalk_events,
    State.withDrive_events, State.withBm_events, State.emit_events, State.withLock_events, State.withLock_selectedDrive,
    State.withDrive_selectedDrive]

/-- A raise is pending, and one event, unless it is gated (60_exceptions.md R280). -/
theorem raiseInterrupt_shows (s : State) :
    (raiseInterrupt s).irqPending = (s.irqPending || !interruptGated s) ∧
      (raiseInterrupt s).events = (if interruptGated s = true then [] else [Event.irqRaise]) ++ s.events := by
  obtain ⟨gated, e⟩ | ⟨free, e⟩ := raiseInterrupt_cases s
  · rw [e, gated]
    simp
  · rw [e, free]
    simp

theorem setActive_cleared : ∀ status : Byte, (status ||| 0x01) &&& 0xFE = status &&& 0xFE := by decide

/-- ACTIVE is no blocked bit, so clearing it opens no gate (43_busmaster_dma.md R244). -/
theorem isBlocked_activeCleared {mask : Byte} (apart : mask &&& 0x67 = 0) (status : Byte) :
    isBlocked mask (status &&& 0xFE) = isBlocked mask status := by
  have kept : ∀ m : Byte, m &&& 0x67 = 0 → 0xFE &&& m = m := by decide
  rw [isBlocked, isBlocked, BitVec.and_assoc, kept mask apart]

theorem sectorSent_gated (ata : s.sel.command ≠ 0xA0) (a1 a2 : Word) (n1 n2 : Nat) :
    interruptGated (sectorSent a1 a2 n1 n2 s) =
      (interruptDisabled s.sel.outputControl || isBlocked s.cfg.iblkMask (s.bm.status &&& 0xFE)) := by
  obtain ⟨cfg, status, -⟩ := sectorSent_frame a1 a2 n1 n2 s
  rw [interruptGated, sectorSent_sel, sectorDrive, bothPartsSent_sel, unitFilled_walkSetup ata, cfg, status]

/-- Settles O59: the START write runs the walk over both descriptors; its gates are those before it. -/
theorem splitSectorDmaRead : Obligations.SplitSectorDmaRead := by
  intro s v a1 a2 c1 c2 i1 i2 live immediate apart room stopped start toMem waiting command unit single answered
    positive1 positive2 total block p calls half table1 table2
  obtain ⟨answer, condition, direction⟩ := exec_startWrite live waiting stopped start
  have agrees : v.getLsbD 3 = true ↔ s.sel.command ≠ 0xCA := by simp [toMem, command]
  have ahead : unitAhead (commandStored v (s.bm.status ||| 0x01) s) = block := by
    show blockContent s.selectedDrive s.selDevice s.sel.dmaLbaStart.toNat s.sel.unitSize = block
    rw [unit]
  have ata : s.sel.command ≠ 0xA0 := by rw [command]; decide
  have parts : SplitUnit (commandStored v (s.bm.status ||| 0x01) s) a1 a2 c1 c2 :=
    { ata := ata
      toMem := (storedCommand_bits v).2.trans toMem
      single := single
      room := unit.trans_le room
      answered := answered
      positive1 := positive1
      positive2 := positive2
      total := total.trans unit.symm
      table1 := ⟨i1, table1⟩
      table2 := ⟨i2, by rw [firstPartMemory, ahead]; exact table2⟩ }
  have gates : interruptGated (sectorSent a1 a2 c1.toNat c2.toNat (commandStored v (s.bm.status ||| 0x01) s)) =
      interruptGated s := by
    rw [sectorSent_gated parts.ata, interruptGated, ← isBlocked_activeCleared apart s.bm.status, ← setActive_cleared s.bm.status]
    rfl
  rw [answer, kick_immediate _ condition immediate, ifDirectionAgrees_next (direction.mpr agrees), parts.sectorSent]
  obtain ⟨pending, events⟩ :=
    raiseInterrupt_shows (sectorSent a1 a2 c1.toNat c2.toNat (commandStored v (s.bm.status ||| 0x01) s))
  obtain ⟨-, active, line, walk, mem⟩ :=
    sectorSent_frame a1 a2 c1.toNat c2.toNat (commandStored v (s.bm.status ||| 0x01) s)
  obtain ⟨status, error, state, count⟩ :=
    sectorSent_drive a1 a2 c1.toNat c2.toNat (commandStored v (s.bm.status ||| 0x01) s)
  obtain ⟨-, memory⟩ := parts.memory
  refine ⟨_, rfl, ?_, ?_, by rwa [raiseInterrupt_sel], by rwa [raiseInterrupt_sel], by rwa [raiseInterrupt_sel],
    by rwa [raiseInterrupt_walk], by rwa [raiseInterrupt_sel], ?_, ?_⟩
  · rw [raiseInterrupt_mem, mem, memory, firstPartMemory, ahead]
    rfl
  · rw [raiseInterrupt_bm, active, ← setActive_cleared s.bm.status]
    rfl
  · rw [pending, gates, line]
    rfl
  · rw [events, gates, sectorSent_events parts.ata, List.append_assoc, ← unit]
    rfl

end Sys2Proof.Machine
end

section
/-!
A faulted block, the gates of a raise and the error classes (60_exceptions.md R270 to R274, R280).
-/

namespace Sys2Proof.Machine

variable {s : State} {x : FatalReason}

/-! ## A faulted block -/

theorem hostWrite_faulted (r : Result) (faulted : s.fault = some x) : hostWrite s r = .fault (.blockFaulted x) :=
  hostAccess_faulted _ faulted

theorem hostTransaction_faulted (a : Access) (r : Result) (faulted : s.fault = some x) :
    hostTransaction a s r = .fault (.blockFaulted x) := by
  unfold hostTransaction
  split
  · exact hostWrite_faulted r faulted
  · exact hostAccess_faulted r faulted

/-- A command byte is a command behind the dispatcher, which starts with the test. -/
theorem runCommandByte_faulted (v : Byte) (faulted : s.fault = some x) :
    runCommandByte v s = .fault (.blockFaulted x) := by
  unfold runCommandByte
  split <;> exact hostWrite_faulted _ faulted

/-- Every instruction stands behind test (1) of 40_register_access.md R130: writes to the register windows, commands
and packets with the test for a deferred operation after it, the others with it alone. -/
theorem exec_faulted (i : Instr) (faulted : s.fault = some x) : exec i s = .fault (.blockFaulted x) := by
  cases i with
  | iow8Command v => exact runCommandByte_faulted v faulted
  | ctlInvalid offset a | widthError w offset a => exact hostTransaction_faulted a _ faulted
  | iow16Data v | iow8Feature v | iow8SectorCount v | iow8SectorNumber v | iow8CylLsb v | iow8CylMsb v
  | iow8DriveHead v | iow8Output v => exact hostWrite_faulted _ faulted
  | readSector | writeSector | packet | identifyPacket | readDma | writeDma | standbyImmediate | sleep | flushCache
  | identify | setFeatures | ataUnknown opcode => exact hostWrite_faulted _ faulted
  | requestSense alloc | inquiry alloc | modeSense6 pc page alloc | modeSense10 pc page alloc
  | readToc msf format track alloc | readDvdStructure address layer format alloc | read10 lba len | read12 lba len
  | readCd lba len sub subch | pktUnknown opcode => exact hostWrite_faulted _ faulted
  | _ => exact hostAccess_faulted _ faulted

/-- The latch is tested before the queue, so the kind of its next item does not matter. -/
theorem step_faulted (faulted : s.fault = some x) : step s = .fault (.blockFaulted x) := by
  simp only [step, faulted]

/-- Settles O6: the step tests the latch itself, each instruction through the tests its meaning stands behind. -/
theorem faultedBlockTakesNoStep : Obligations.FaultedBlockTakesNoStep :=
  fun _ _ faulted => ⟨step_faulted faulted, fun i => exec_faulted i faulted⟩

/-! ## The gates of a raise -/

/-- A raise goes through when nIEN of the drive is clear and no blocked bit is set (60_exceptions.md R280 a, b). -/
theorem interruptGated_eq_false_iff :
    interruptGated s = false ↔ s.sel.outputControl.getLsbD 1 = false ∧ s.bm.status &&& s.cfg.iblkMask = 0 := by
  simp [interruptGated, interruptDisabled, isBlocked]

/-- Settles O53: a gated raise leaves the state, one that goes through is the update. -/
theorem raiseInterruptGates : Obligations.RaiseInterruptGates := by
  intro s
  obtain ⟨gated, stopped⟩ | ⟨free, raised⟩ := raiseInterrupt_cases s
  · rw [stopped, if_neg (mt interruptGated_eq_false_iff.mpr (ne_false_of_eq_true gated))]
  · rw [raised, if_pos (interruptGated_eq_false_iff.mp free)]

/-! ## The error classes -/

/-- Settles O54: each class is its row of 60_exceptions.md R270's table, with the values of the named codes. -/
theorem errorClassRecords : Obligations.ErrorClassRecords :=
  fun s _ _ r => ⟨rfl, rfl, raiseError_fatal s r, rfl, rfl⟩

end Sys2Proof.Machine
end
